-- ==== Sys2Proof/Word.lean ====
section
/-! DEFINITION. The word types of the block: the operation byte and its two nibbles (spec/30_encoding.md R60). A level of
a one-bit pin, control bit or flag is a `Bool`, `true` for level 1 and `false` for level 0 (R66; log 19); line numbers and
counts are `Nat` (spec/00_scope.md R8, spec/10_state.md R11: "a natural ... and never as a raw bit vector"). -/

namespace Sys2Proof

/-- An operation byte `op[7:0]` (R60). -/
abbrev Byte := BitVec 8

/-- Half an operation byte: `OPC = op[7:4]` or `ARG = op[3:0]` (R60). -/
abbrev Nibble := BitVec 4

end Sys2Proof
end

