-- ==== Sys2Proof/Config.lean ====
section
/-! DEFINITION. The configuration structure `Cfg` (spec/00_scope.md R4), the labels of its control registers
(spec/10_state.md R25), the configuration the machine is launched with, and the free values: what the spec leaves to the
implementation or to the model's oracle, as constants with no body. -/

namespace Sys2Proof

/-- `LC_VISIBILITY` (R4, P7): how a main-loop read sees LineCounter (spec/20_memory.md R44, R45). -/
inductive Visibility where
  | immediate
  | eventual
  deriving DecidableEq, Repr

/-- Every constant of the block (R4): "fixed before START and never changed while the generator runs". -/
structure Cfg where
  /-- `V_BP_START`, lines (OPEN parameter P1). -/
  vBpStart : Nat
  /-- `V_ACTIVE_START`, lines. -/
  vActiveStart : Nat
  /-- `V_FP_START`, lines. -/
  vFpStart : Nat
  /-- `V_TOTAL`, lines. -/
  vTotal : Nat
  /-- `V_ACTIVE_COUNT`, lines. -/
  vActiveCount : Nat
  /-- `H_PERIOD`, abstract time units (P2). -/
  hPeriod : Nat
  /-- `H_PULSE_WIDTH`, abstract time units (P3). -/
  hPulseWidth : Nat
  /-- `HSYNC_ACTIVE`, the polarity of the horizontal pulse (P4). -/
  hsyncActive : Bool
  /-- `N_R`, PDRIVE operations (P5; used by the PLINE pseudo-operation only). -/
  nR : Nat
  /-- `N_G` (P5). -/
  nG : Nat
  /-- `N_B` (P5). -/
  nB : Nat
  /-- `SPIN_BOUND`, PWAIT operations; `none` is production behaviour (P6). -/
  spinBound : Option Nat
  /-- `LC_VISIBILITY` (P7). -/
  lcVisibility : Visibility
  /-- `LC_WIDTH`, bits (D3). -/
  lcWidth : Nat
  deriving DecidableEq, Repr

namespace Cfg

/-- The configuration of the launch state: the reference configuration REF (R4), with the OPEN parameters at the values
of the spec's own examples (spec/92_eei_decisions.md P1 to P7). DESIGN CHOICE for the OPEN ones (log 5): no statement
rests on them. -/
def launch : Cfg where
  vBpStart := 2
  vActiveStart := 34
  vFpStart := 514
  vTotal := 528
  vActiveCount := 480
  hPeriod := 4
  hPulseWidth := 1
  hsyncActive := false
  nR := 1
  nG := 1
  nB := 1
  spinBound := none
  lcVisibility := .immediate
  lcWidth := 10

end Cfg

/-- The control registers of R25, by name. -/
inductive CtrlReg where
  | vBpStart | vActiveStart | vFpStart | vTotal | vActiveCount | hPeriod | hPulseWidth | hsyncActive
  | nR | nG | nB | spinBound | ctrl
  deriving DecidableEq, Repr

namespace Config

/-- FREE VALUE. What RESET leaves in MARKER ("MARKER <- unspecified", R121; spec/93_implementation_defined.md U2 `any
value`), drawn with the state's counter (log 7). -/
opaque unspecifiedMarker : Nat → Nat

/-- FREE VALUE. How many writes of LC a read in eventual mode lags behind the newest one, before the law of R45 bounds it;
drawn with the state's counter (log 9). -/
opaque readLag : Nat → Nat

/-- FREE VALUE. The number of main-loop reads after a write of LC within which that write becomes visible if no later
write of LC happens (the law "eventually" of R45), drawn with the counter's value at the write (log 9). -/
opaque visibleWithin : Nat → Nat

end Config

end Sys2Proof
end

