-- ==== Sys2Proof/Syntax.lean ====
section
/-! DEFINITION. The operations of the block (spec/30_encoding.md R62, spec/opcode_table.json): one constructor a row,
with the agents that perform them (spec/00_scope.md R7) and the formats they are written in (R61). -/

namespace Sys2Proof

/-- The thirteen operations (R62). Only PDRIVE carries an operand, its three pin levels (R64). -/
inductive Instr where
  /-- RESET: a full reset of the block (R121). -/
  | reset
  /-- START: the initialisation sequence (R122). -/
  | start
  /-- STOP: the generator no longer pulses (R123). -/
  | stop
  /-- HPULSE: one hardware pulse (R124). -/
  | hpulse
  /-- SPUR: the interrupt source raised without a pulse (R125). -/
  | spur
  /-- TICK: the pulse interrupt's handler (R82). -/
  | tick
  /-- RDLC: a main-loop read of LineCounter (R101). -/
  | rdlc
  /-- PPOLL: the entry test of the pacer's outer loop (R102). -/
  | ppoll
  /-- PBEGIN: the capture of the generation marker (R103). -/
  | pbegin
  /-- PDRIVE r g b: the levels to drive on the colour outputs (R104). -/
  | pdrive (r g b : Bool)
  /-- PBLANK: the colour outputs off, before the end-of-line wait (R105). -/
  | pblank
  /-- PWAIT: one iteration of the end-of-line wait (R106). -/
  | pwait
  /-- HCLK: one time unit of the pulse generator's counter (R127). -/
  | hclk
  deriving DecidableEq, Repr

/-- The agents that take steps (R7). -/
inductive Agent where
  | host | hgen | env | irq | main
  deriving DecidableEq, Repr

/-- The level of the model in which an operation is issued (R6, the "level" column of R62). -/
inductive OpLevel where
  | both | line | tick
  deriving DecidableEq, Repr

/-- The two formats of an operation byte (R61). -/
inductive Format where
  | z | p
  deriving DecidableEq, Repr

/-- The two execution contexts (spec/60_exceptions.md R151). -/
inductive Context where
  | interrupt | mainLoop
  deriving DecidableEq, Repr

end Sys2Proof
end

