-- ==== Sys2Proof/WellFormed.lean ====
section
/-! DEFINITION. Well-formedness: of a configuration, `WF(Cfg)` (spec/00_scope.md R5), which START checks, and of an
operation, whose only operand is three levels (spec/30_encoding.md R64) and so admits no ill-formed term. -/

namespace Sys2Proof

namespace Cfg

/-- The thresholds are ordered, strictly, so that each of the four phases has a line (R5, D4). -/
def thresholdsOrdered (c : Cfg) : Bool :=
  decide (0 < c.vBpStart) && decide (c.vBpStart < c.vActiveStart) && decide (c.vActiveStart < c.vFpStart)
    && decide (c.vFpStart < c.vTotal)

/-- The burst of active lines fits the active phase (R5). -/
def burstFits (c : Cfg) : Bool :=
  decide (1 ≤ c.vActiveCount) && decide (c.vActiveCount ≤ c.vFpStart - c.vActiveStart)

/-- The horizontal pulse is shorter than its period, and not empty (R5, D12). -/
def pulseFits (c : Cfg) : Bool :=
  decide (0 < c.hPulseWidth) && decide (c.hPulseWidth < c.hPeriod)

/-- Every line number fits LC's width (R5, D3). -/
def counterFits (c : Cfg) : Bool :=
  decide (c.vTotal ≤ 2 ^ c.lcWidth)

/-- `WF(Cfg)` (R5). -/
def wf (c : Cfg) : Bool :=
  c.thresholdsOrdered && c.burstFits && c.pulseFits && c.counterFits

end Cfg

namespace Instr

/-- Every term of `Instr` is an operation of R62: the three levels of PDRIVE take every value format P admits, and no
other operation has an operand (R61, R64). Listed constructor by constructor, so that a later one must answer here. -/
def wf : Instr → Bool
  | .reset | .start | .stop | .hpulse | .spur | .tick | .rdlc | .ppoll | .pbegin | .pblank | .pwait | .hclk => true
  | .pdrive _ _ _ => true

end Instr

end Sys2Proof
end

