-- ==== Sys2Proof/Decode.lean ====
section
/-! DEFINITION. The decoder of operation bytes, total, rejecting by name (spec/30_encoding.md R60 to R65), and after it the
encoder, from the same table (R62). -/

namespace Sys2Proof

/-- Why a byte is illegal (R65). -/
inductive DecodeError where
  /-- `OPC` is 0x0, 0xE or 0xF. -/
  | reservedOpc
  /-- The format is Z and `ARG` is not 0000. -/
  | argNotZero
  /-- A PDRIVE byte with `ARG[3] = 1`. -/
  | argBit3Set
  deriving DecidableEq, Repr

/-- `OPC = op[7:4]` (R60). -/
def opcOf (b : Byte) : Nibble := b.extractLsb' 4 4

/-- `ARG = op[3:0]` (R60). -/
def argOf (b : Byte) : Nibble := b.extractLsb' 0 4

/-- Format Z: `ARG` must be 0000 (R61). -/
def decodeZ (i : Instr) (arg : Nibble) : Except DecodeError Instr :=
  if arg = 0#4 then .ok i else .error .argNotZero

/-- Format P: `ARG[3]` must be 0, and `ARG[2]`, `ARG[1]`, `ARG[0]` are the levels for R, G, B (R61, R64). -/
def decodeP (f : Bool → Bool → Bool → Instr) (arg : Nibble) : Except DecodeError Instr :=
  if arg.getLsbD 3 then .error .argBit3Set else .ok (f (arg.getLsbD 2) (arg.getLsbD 1) (arg.getLsbD 0))

/-- The decoder: "for every byte it answers either one operation or `invalid`" (R62, R65). -/
def decode (b : Byte) : Except DecodeError Instr :=
  match (opcOf b).toNat with
  | 0x1 => decodeZ .reset (argOf b)
  | 0x2 => decodeZ .start (argOf b)
  | 0x3 => decodeZ .stop (argOf b)
  | 0x4 => decodeZ .hpulse (argOf b)
  | 0x5 => decodeZ .spur (argOf b)
  | 0x6 => decodeZ .tick (argOf b)
  | 0x7 => decodeZ .rdlc (argOf b)
  | 0x8 => decodeZ .ppoll (argOf b)
  | 0x9 => decodeZ .pbegin (argOf b)
  | 0xA => decodeP .pdrive (argOf b)
  | 0xB => decodeZ .pblank (argOf b)
  | 0xC => decodeZ .pwait (argOf b)
  | 0xD => decodeZ .hclk (argOf b)
  | _ => .error .reservedOpc

/-- The operation code of each operation, the OPC column of R62. -/
def opcode : Instr → Nibble
  | .reset => 0x1#4
  | .start => 0x2#4
  | .stop => 0x3#4
  | .hpulse => 0x4#4
  | .spur => 0x5#4
  | .tick => 0x6#4
  | .rdlc => 0x7#4
  | .ppoll => 0x8#4
  | .pbegin => 0x9#4
  | .pdrive _ _ _ => 0xA#4
  | .pblank => 0xB#4
  | .pwait => 0xC#4
  | .hclk => 0xD#4

/-- The argument of each operation: `0rgb` in format P, 0000 in format Z (R61). -/
def argument : Instr → Nibble
  | .pdrive r g b => BitVec.ofBool false ++ BitVec.ofBool r ++ BitVec.ofBool g ++ BitVec.ofBool b
  | .reset | .start | .stop | .hpulse | .spur | .tick | .rdlc | .ppoll | .pbegin | .pblank | .pwait | .hclk => 0#4

/-- The byte of an operation (R60): `OPC` in the high nibble, `ARG` in the low one. -/
def encode (i : Instr) : Byte := opcode i ++ argument i

/-- Decode a whole trace, or answer why its first illegal byte is one (R65, R68). -/
def decodeTrace : List Byte → Except DecodeError (List Instr)
  | [] => .ok []
  | b :: bs =>
    match decode b with
    | .error e => .error e
    | .ok i =>
      match decodeTrace bs with
      | .error e => .error e
      | .ok is => .ok (i :: is)

/-- The bytes of a trace (R68). -/
def encodeTrace : List Instr → List Byte
  | [] => []
  | i :: is => encode i :: encodeTrace is

/-- The byte that spec/opcode_table.json numbers `w` on `nbits` bits: an operation is one byte, so bit 0 of the table's
numbering is bit 0 of the byte, and every bit above `nbits` is 0. -/
def tableByte (nbits w : Nat) : Byte := BitVec.ofNat 8 (w % 2 ^ nbits)

/-- The operation the decoder reads from the table's word `w` of `nbits` bits; none where it refuses. -/
def decodeTableWord (nbits w : Nat) : Option Instr :=
  match decode (tableByte nbits w) with
  | .ok i => some i
  | .error _ => none

end Sys2Proof
end

