-- ==== Sys2Proof/Machine/State.lean ====
section
/-! DEFINITION. The state of the block (spec/10_state.md R10, R24, R25; spec/00_scope.md R9), the reasons a step can
stop, and the state right after reset (R30). Plain data. -/

namespace Sys2Proof.Machine

/-- `PST`: where the pacer stands in its loop (R20). -/
inductive Pst where
  | idle | begin | drive | wait
  deriving DecidableEq, Repr

/-- The vertical phases (spec/40_vertical_state_machine.md R81). Never stored (R12). -/
inductive Phase where
  | sync | backPorch | active | frontPorch
  deriving DecidableEq, Repr

/-- The events of the observation log (spec/00_scope.md R9). -/
inductive Event where
  /-- One hardware pulse boundary: HPULSE, or HCLK on wrap. -/
  | pulse
  /-- A pulse arrived while the previous one was still pending, and is lost. -/
  | missed
  /-- SPUR raised the interrupt source without a pulse. -/
  | spurious
  /-- TICK took VSYNC from 1 to 0. -/
  | vsFall
  /-- TICK took VSYNC from 0 to 1. -/
  | vsRise
  /-- PBEGIN: one "draw line" call with generation marker `m`. -/
  | draw (m : Nat)
  deriving DecidableEq, Repr

/-- The state of the machine. -/
structure State where
  /-- `Cfg` (R4, R25): a parameter of the machine; no operation writes it (log 4). -/
  cfg : Cfg
  /-- `LC`, the scanline counter (R11). -/
  lc : Nat
  /-- `VSYNC`, register and pin (R13). -/
  vsync : Bool
  /-- `R`, register and pin (R14). -/
  r : Bool
  /-- `G`, register and pin (R14). -/
  g : Bool
  /-- `B`, register and pin (R14). -/
  b : Bool
  /-- `HRUN`, `CTRL[0]`: the generator runs (R15). -/
  hrun : Bool
  /-- `IEN`, `CTRL[1]`: the pulse interrupt is attached and enabled (R16). -/
  ien : Bool
  /-- `HIRQ`, `CTRL[2]`: the interrupt source is pending (R17). -/
  hirq : Bool
  /-- `HCNT`, the generator's position inside its period (R18). -/
  hcnt : Nat
  /-- `PST`, the pacer's loop position (R20). -/
  pst : Pst
  /-- `PLEFT`, the lines the pacer still has to complete (R21). -/
  pleft : Nat
  /-- `MARKER`, the generation marker (R22). -/
  marker : Nat
  /-- `SPIN`, iterations of the current wait (R23). -/
  spin : Nat
  /-- `STUCK`, the sticky fault bit (R27). -/
  stuck : Bool
  /-- `WSEQ`, TICKs since the last START or RESET; eventual mode only (R24). -/
  wseq : Nat
  /-- `RSEQ`, the newest write a main-loop read has returned; eventual mode only (R24). -/
  rseq : Nat
  /-- `HIST`: place `s` holds the value LC held after the `s`-th TICK; eventual mode only (R24). -/
  hist : List Nat
  /-- `LOG`, the observation log, oldest first (R9). -/
  log : List Event
  /-- The MODEL's own: the operation bytes still to be issued, in order (a trace is a schedule, R68; log 1). -/
  sched : List Byte
  /-- The MODEL's own: the values RDLC has returned, oldest first (R101; log 15). -/
  results : List Nat
  /-- The MODEL's own: the counter free values are drawn with (log 8). -/
  freeIdx : Nat
  /-- The MODEL's own: `freeIdx` at the last write of LC; eventual mode only (log 9). -/
  readWindow : Nat
  deriving DecidableEq, Repr

/-- The faults a step can end in: NONE. "The block raises no synchronous exception" (spec/60_exceptions.md R140), and its
one recorded fault, STUCK, is a bit of the state that stops nothing (R157), so there is no constructor. Safe: a claim
about a fault outcome has nothing to hold of (log 22). -/
inductive Fault where
  deriving DecidableEq, Repr

/-- The reasons a step can be refused. -/
inductive Refusal where
  /-- No meaning yet for the operation of this mnemonic. Raised by an arm of `exec` only. Safe: the machine stops. -/
  | notModelled (mnemonic : String)
  /-- The operation's guard is false, so it "has no step in this state" (R8, spec/70_reset_and_hazards.md R170). Raised by
  the meaning of every operation that has a guard. Safe: nothing changes, as the spec says. A step that meets it in a
  schedule drops the operation and goes on (log 2). -/
  | notEnabled (i : Instr)
  /-- TICK found LC outside `[0, V_TOTAL)`: "Treat as: refuse" (spec/93_implementation_defined.md U1). Raised by TICK.
  Safe: no state reached from RESET or START is one (R31, I-1; log 12). -/
  | lineOutOfRange
  /-- PWAIT found LC different from MARKER with PLEFT = 0, a pair that the "complete transition relation of PST" does not
  list, hence "a refusal" (spec/41_pixel_pacer.md R107). Raised by PWAIT. Safe: no state reached from RESET or START is
  one (R31, I-5; log 13). -/
  | noLinesLeft
  /-- The next byte of the schedule is illegal: "the model refuses it" (spec/30_encoding.md R65). Raised by `step`. Safe:
  nothing changes (log 3). -/
  | invalidByte (byte : Byte) (why : DecodeError)
  /-- The schedule is empty: no agent has a step to take. Raised by `step`. Safe: nothing changes (log 3). -/
  | scheduleEmpty
  deriving DecidableEq, Repr

/-- The answer of an operation's meaning and of a step. -/
abbrev Result := Host.Outcome State Fault Refusal

/-- The reset state of a machine launched with configuration `c` (R30), nothing scheduled. MARKER is 0 here, a DESIGN
CHOICE (log 6: the spec says "unspecified"). -/
def State.resetWith (c : Cfg) : State where
  cfg := c
  lc := 0
  vsync := true
  r := false
  g := false
  b := false
  hrun := false
  ien := false
  hirq := false
  hcnt := 0
  pst := .idle
  pleft := 0
  marker := 0
  spin := 0
  stuck := false
  wseq := 0
  rseq := 0
  hist := [0]
  log := []
  sched := []
  results := []
  freeIdx := 0
  readWindow := 0

/-- The machine right after reset (R30, R165), with the launch configuration (log 5). -/
def State.reset : State := State.resetWith Cfg.launch

end Sys2Proof.Machine
end

