-- ==== Sys2Proof/Machine/Flags.lean ====
section
/-! DEFINITION. The derived values of the block, none of them stored: the vertical phase
(spec/40_vertical_state_machine.md R81), the derived flags (spec/10_state.md R28), the HSYNC pin
(spec/42_pulse_generator_and_lifecycle.md R128), the CTRL word (R25) and the state codes (spec/30_encoding.md R66). -/

namespace Sys2Proof.Machine

/-- `phase(k)` (R81); "not defined for `k >= V_TOTAL`". -/
def phase (c : Cfg) (k : Nat) : Option Phase :=
  if k < c.vBpStart then some .sync
  else if k < c.vActiveStart then some .backPorch
  else if k < c.vFpStart then some .active
  else if k < c.vTotal then some .frontPorch
  else none

/-- The derived flag `phase(LC) = ACTIVE` (R28). -/
def State.activeFlag (s : State) : Bool := phase s.cfg s.lc == some .active

/-- The derived flag `LC = V_ACTIVE_START` (R28). -/
def State.entryFlag (s : State) : Bool := s.lc == s.cfg.vActiveStart

/-- The derived flag `LC = MARKER` (R28). -/
def State.markerFlag (s : State) : Bool := s.lc == s.marker

/-- The test of TICK's wrap on the pre-value `k` (spec/40_vertical_state_machine.md R86). -/
def lineWraps (c : Cfg) (k : Nat) : Bool := k + 1 == c.vTotal

/-- The line after line `k`: the wrap is a comparison with `V_TOTAL`, "not at a power-of-two" (R86). -/
def nextLine (c : Cfg) (k : Nat) : Nat := if lineWraps c k then 0 else k + 1

/-- The test of HCLK's wrap (spec/42_pulse_generator_and_lifecycle.md R127). -/
def State.counterWraps (s : State) : Bool := s.hcnt + 1 == s.cfg.hPeriod

/-- PWAIT's bound: `SPIN_BOUND = n and SPIN >= n` (spec/41_pixel_pacer.md R106); never with `SPIN_BOUND = none`. -/
def State.atSpinBound (s : State) : Bool :=
  match s.cfg.spinBound with
  | none => false
  | some n => decide (n ≤ s.spin)

/-- The HSYNC pin at the tick level (R128): a function of the state, not a register (R19; log 14). -/
def State.hsync (s : State) : Bool :=
  if s.hrun && decide (s.hcnt < s.cfg.hPulseWidth) then s.cfg.hsyncActive else !s.cfg.hsyncActive

/-- `CTRL[0] = HRUN`, `CTRL[1] = IEN`, `CTRL[2] = HIRQ` (R25). -/
def State.ctrl (s : State) : BitVec 3 :=
  BitVec.ofBool s.hirq ++ BitVec.ofBool s.ien ++ BitVec.ofBool s.hrun

/-- The codes of PST (R66). -/
def Pst.code : Pst → BitVec 2
  | .idle => 0#2
  | .begin => 1#2
  | .drive => 2#2
  | .wait => 3#2

/-- The codes of the phase, for traces that print it (R66). -/
def Phase.code : Phase → BitVec 2
  | .sync => 0#2
  | .backPorch => 1#2
  | .active => 2#2
  | .frontPorch => 3#2

end Sys2Proof.Machine
end

