-- ==== Sys2Proof/Machine/Operands.lean ====
section
/-! DEFINITION. Operands and named registers: the one operand of the operation set, PDRIVE's three levels
(spec/30_encoding.md R64, R68), and the control registers by name (spec/10_state.md R25). -/

namespace Sys2Proof.Machine

/-- The digit 0 to 7 that a trace writes for PDRIVE's operand: R is bit 2, G bit 1, B bit 0 (R61, R68). -/
def driveDigit (r g b : Bool) : BitVec 3 := BitVec.ofBool r ++ BitVec.ofBool g ++ BitVec.ofBool b

/-- PDRIVE with the operand a trace writes as a digit (R68: "`PDRIVE 4` drives R only"). -/
def pdriveDigit (d : BitVec 3) : Instr := .pdrive (d.getLsbD 2) (d.getLsbD 1) (d.getLsbD 0)

/-- The index column of R25: "labels, not addresses, and no operation takes one as an operand". -/
def ctrlRegIndex : CtrlReg → Nat
  | .vBpStart => 0
  | .vActiveStart => 1
  | .vFpStart => 2
  | .vTotal => 3
  | .vActiveCount => 4
  | .hPeriod => 5
  | .hPulseWidth => 6
  | .hsyncActive => 7
  | .nR => 8
  | .nG => 9
  | .nB => 10
  | .spinBound => 11
  | .ctrl => 12

/-- The width column of R25, in bits; `none` where it says "unspecified". -/
def ctrlRegWidth (c : Cfg) : CtrlReg → Option Nat
  | .vBpStart | .vActiveStart | .vFpStart | .vActiveCount => some c.lcWidth
  | .vTotal => some (c.lcWidth + 1)
  | .hsyncActive => some 1
  | .ctrl => some 3
  | .hPeriod | .hPulseWidth | .nR | .nG | .nB | .spinBound => none

/-- The value of a control register (R25); `none` is SPIN_BOUND's own value `none`. -/
def State.ctrlReg (s : State) : CtrlReg → Option Nat
  | .vBpStart => some s.cfg.vBpStart
  | .vActiveStart => some s.cfg.vActiveStart
  | .vFpStart => some s.cfg.vFpStart
  | .vTotal => some s.cfg.vTotal
  | .vActiveCount => some s.cfg.vActiveCount
  | .hPeriod => some s.cfg.hPeriod
  | .hPulseWidth => some s.cfg.hPulseWidth
  | .hsyncActive => some s.cfg.hsyncActive.toNat
  | .nR => some s.cfg.nR
  | .nG => some s.cfg.nG
  | .nB => some s.cfg.nB
  | .spinBound => s.cfg.spinBound
  | .ctrl => some s.ctrl.toNat

end Sys2Proof.Machine
end

