-- ==== Sys2Proof/Machine/Ops.lean ====
section
/-! DEFINITION. The named operations over the registers that the meanings are made of: guards, the log, the read and the
write of LineCounter, the interrupt request and its acknowledgement, the outputs, and the idle values of reset and start.
The block has no addressed memory (spec/20_memory.md R40) and no exception (spec/60_exceptions.md R140); the interrupt's
entry and return save and restore nothing (R146, R149), so raising and acknowledging the request is all there is. -/

namespace Sys2Proof.Machine

/-- `requires p` (spec/00_scope.md R8): "when the condition is false the operation is refused". -/
def requires (p : Bool) (i : Instr) (k : Result) : Result := if p then k else .refused (.notEnabled i)

/-- `log(e)` for each event of `es`, in order (R9). -/
def State.logged (es : List Event) (s : State) : State := { s with log := s.log ++ es }

/-! ### LineCounter: the read (spec/20_memory.md R44, R45) and the write (R41, R46) -/

/-- How many writes behind the newest one this read asks to be: the oracle's choice, and none at all once the law
"eventually" of R45 is due, `visibleWithin` reads after the last write (log 9). -/
def State.readLag (s : State) : Nat :=
  if Config.visibleWithin s.readWindow ≤ s.freeIdx - s.readWindow then 0 else Config.readLag s.freeIdx

/-- The write a read in eventual mode returns: some `j` with `RSEQ <= j <= WSEQ` (R45). -/
def State.readIndex (s : State) : Nat := s.wseq - s.readLag % (s.wseq - s.rseq + 1)

/-- `HIST(j)` (R24). Outside HIST, where no state reached from RESET or START reads, it is LC (log 11). -/
def State.histAt (s : State) (j : Nat) : Nat := s.hist.getD j s.lc

/-- `RdLC()`: the value read and the state after the read. Immediate mode: the current LC, and nothing changes (R44).
Eventual mode: `HIST(j)` and `RSEQ <- j` (R45); the free-value counter moves on. -/
def rdLC (s : State) : Nat × State :=
  match s.cfg.lcVisibility with
  | .immediate => (s.lc, s)
  | .eventual => (s.histAt s.readIndex, { s with rseq := s.readIndex, freeIdx := s.freeIdx + 1 })

/-- The write of LC by TICK: LC itself and, in eventual mode, one more entry of HIST (R24). -/
def writeLC (v : Nat) (s : State) : State :=
  match s.cfg.lcVisibility with
  | .immediate => { s with lc := v }
  | .eventual => { s with lc := v, wseq := s.wseq + 1, hist := s.hist ++ [v], readWindow := s.freeIdx }

/-- "(eventual mode) WSEQ <- 0; RSEQ <- 0; HIST <- (0 -> 0)" of RESET and START (R121, R122). -/
def restartHistory (s : State) : State :=
  match s.cfg.lcVisibility with
  | .immediate => s
  | .eventual => { s with wseq := 0, rseq := 0, hist := [0], readWindow := s.freeIdx }

/-! ### The pulse interrupt (spec/60_exceptions.md R142, R143) -/

/-- A pulse boundary: HPULSE, and HCLK on wrap (spec/42_pulse_generator_and_lifecycle.md R124, R127). HIRQ is one bit: a
pulse that finds it pending is merged with it and lost. -/
def pulseBoundary (s : State) : State :=
  State.logged (if s.hirq then [.missed, .pulse] else [.pulse]) { s with hirq := true }

/-- The interrupt source raised with no pulse behind it (R125). -/
def raiseSpurious (s : State) : State := State.logged [.spurious] { s with hirq := true }

/-- T1 of TICK: `HCNT <- 0`; halt, reset and resume are one write (spec/40_vertical_state_machine.md R84). -/
def rebaseline (s : State) : State := { s with hcnt := 0 }

/-- T2 of TICK: `HIRQ <- 0` (R87). -/
def acknowledge (s : State) : State := { s with hirq := false }

/-- `VSYNC <- 0`, logging `VsFall` when the level changes (R85). -/
def clearVsync (s : State) : State :=
  State.logged (if s.vsync then [.vsFall] else []) { s with vsync := false }

/-- `VSYNC <- 1`, logging `VsRise` when the level changes (R85). -/
def setVsync (s : State) : State :=
  State.logged (if s.vsync then [] else [.vsRise]) { s with vsync := true }

/-- T3 of TICK, on the pre-value `k`: two equality tests (R85). -/
def updateVsync (k : Nat) (s : State) : State :=
  if k = 0 then clearVsync s else if k = s.cfg.vBpStart then setVsync s else s

/-- T4 of TICK, on the pre-value `k` (R86). -/
def advanceLine (k : Nat) (s : State) : State := writeLC (nextLine s.cfg k) s

/-- The handler: T1, T2, T3, T4, in this order, on the pre-value `k = LC` (R82, R83). -/
def handlerBody (s : State) : State := advanceLine s.lc (updateVsync s.lc (acknowledge (rebaseline s)))

/-! ### Outputs, pacer, generator -/

/-- `R <- r; G <- g; B <- b`, the three pins in one step (spec/41_pixel_pacer.md R104). -/
def setColour (r g b : Bool) (s : State) : State := { s with r := r, g := g, b := b }

/-- The end of a line's wait: `PLEFT <- PLEFT - 1`, and IDLE when it reaches 0, else BEGIN (R106). -/
def finishLine (s : State) : State :=
  { s with pleft := s.pleft - 1, pst := if s.pleft - 1 = 0 then .idle else .begin }

/-- S1 of START: outputs and counter at their idle values (R122). -/
def idleOutputs (s : State) : State := setColour false false false { s with lc := 0, vsync := true }

/-- S2 of START: the main loop at its top (R122). -/
def idlePacer (s : State) : State := { s with pst := .idle, pleft := 0, spin := 0 }

/-- S3 of START: the generator's counter and request (R122). -/
def idleGenerator (s : State) : State := { s with hcnt := 0, hirq := false }

/-- S4 and S5 of START, and their opposite in STOP and RESET: IEN and HRUN (R121 to R123). -/
def setRunning (on : Bool) (s : State) : State := { s with ien := on, hrun := on }

/-- RESET's `STUCK <- 0` and `LOG <- empty` (R121). -/
def clearRecords (s : State) : State := { s with stuck := false, log := [] }

/-- `MARKER <- unspecified` (R121): a free value that fits MARKER's width (R10); the counter moves on (log 7). -/
def freeMarker (s : State) : State :=
  { s with marker := Config.unspecifiedMarker s.freeIdx % 2 ^ s.cfg.lcWidth, freeIdx := s.freeIdx + 1 }

end Sys2Proof.Machine
end

