-- ==== Sys2Proof/Machine/Lifecycle.lean ====
section
/-! DEFINITION. The operations of agent HOST: RESET, START, STOP (spec/42_pulse_generator_and_lifecycle.md R121 to
R123). None touches Cfg, the schedule or the values RDLC has returned. -/

namespace Sys2Proof.Machine

/-- RESET (R121): every register in its reset state, MARKER unspecified, the log empty. No guard. -/
def execReset (s : State) : Result :=
  .next (restartHistory (freeMarker (clearRecords (setRunning false (idleGenerator (idlePacer (idleOutputs s)))))))

/-- START (R122), sub-steps S1 to S5 as one atomic step. STUCK, MARKER and the log stay. -/
def execStart (s : State) : Result :=
  requires (!s.hrun && s.cfg.wf) .start
    (.next (restartHistory (setRunning true (idleGenerator (idlePacer (idleOutputs s))))))

/-- STOP (R123): the generator halts, the interrupt is disabled and a pending pulse dropped; all else stays. -/
def execStop (s : State) : Result :=
  requires s.hrun .stop (.next (setRunning false (acknowledge s)))

end Sys2Proof.Machine
end

