-- ==== Sys2Proof/Machine/Pacer.lean ====
section
/-! DEFINITION. The operations of agent MAIN, the pixel pacer: RDLC, PPOLL, PBEGIN, PDRIVE, PBLANK, PWAIT
(spec/41_pixel_pacer.md R101 to R106). -/

namespace Sys2Proof.Machine

/-- RDLC (R101): `result <- RdLC()`, the result appended to the model's list of results (log 15). No guard. -/
def execRdlc (s : State) : Result :=
  .next { (rdLC s).2 with results := s.results ++ [(rdLC s).1] }

/-- PPOLL (R102): equality with one value, not membership in the active phase. -/
def execPpoll (s : State) : Result :=
  requires (s.pst == .idle) .ppoll
    (if (rdLC s).1 = s.cfg.vActiveStart then .next { (rdLC s).2 with pleft := s.cfg.vActiveCount, pst := .begin }
     else .next (rdLC s).2)

/-- PBEGIN (R103): a fresh read captured as the generation marker, one "draw line" call. -/
def execPbegin (s : State) : Result :=
  requires (s.pst == .begin) .pbegin
    (.next (State.logged [.draw (rdLC s).1] { (rdLC s).2 with marker := (rdLC s).1, pst := .drive }))

/-- PDRIVE r g b (R104). -/
def execPdrive (r g b : Bool) (s : State) : Result :=
  requires (s.pst == .drive) (.pdrive r g b) (.next (setColour r g b s))

/-- PBLANK (R105): unconditional, also when the outputs are already off. -/
def execPblank (s : State) : Result :=
  requires (s.pst == .drive) .pblank (.next { setColour false false false s with spin := 0, pst := .wait })

/-- PWAIT (R106): one iteration of the spin. With `PLEFT = 0` and LC different from MARKER, a pair R107 does not list, it
refuses by name (log 13). -/
def execPwait (s : State) : Result :=
  requires (s.pst == .wait) .pwait
    (if (rdLC s).1 = s.marker then
       if s.atSpinBound then .next { (rdLC s).2 with stuck := true }
       else .next { (rdLC s).2 with spin := s.spin + 1 }
     else if s.pleft = 0 then .refused .noLinesLeft
     else .next (finishLine (rdLC s).2))

end Sys2Proof.Machine
end

