-- ==== Sys2Proof/Machine/Pulse.lean ====
section
/-! DEFINITION. The operations of agents HGEN and ENV: HPULSE, HCLK, SPUR
(spec/42_pulse_generator_and_lifecycle.md R124, R125, R127). -/

namespace Sys2Proof.Machine

/-- HPULSE (R124): one hardware pulse; "raises the interrupt source and does nothing else". -/
def execHpulse (s : State) : Result := requires s.hrun .hpulse (.next (pulseBoundary s))

/-- SPUR (R125). -/
def execSpur (s : State) : Result := requires s.ien .spur (.next (raiseSpurious s))

/-- HCLK (R127): one time unit; the wrap of HCNT is the pulse boundary. -/
def execHclk (s : State) : Result :=
  requires s.hrun .hclk
    (.next (if s.counterWraps then pulseBoundary (rebaseline s) else { s with hcnt := s.hcnt + 1 }))

end Sys2Proof.Machine
end

