-- ==== Sys2Proof/Machine/Vertical.lean ====
section
/-! DEFINITION. The operation of agent IRQ: TICK, the pulse interrupt's handler
(spec/40_vertical_state_machine.md R82 to R89). -/

namespace Sys2Proof.Machine

/-- TICK (R82). With LC outside `[0, V_TOTAL)`, a value no operation writes, it refuses by name
(spec/93_implementation_defined.md U1; log 12). -/
def execTick (s : State) : Result :=
  requires (s.ien && s.hirq) .tick
    (if s.lc < s.cfg.vTotal then .next (handlerBody s) else .refused .lineOutOfRange)

end Sys2Proof.Machine
end

