-- ==== Sys2Proof/Machine/Dispatch.lean ====
section
/-! DEFINITION. The dispatch: one arm per operation of spec/30_encoding.md R62. -/

namespace Sys2Proof.Machine

def exec (i : Instr) (s : State) : Host.Outcome State Fault Refusal :=
  match i with
  | .reset => Sys2Proof.Machine.execReset s
  | .start => Sys2Proof.Machine.execStart s
  | .stop => Sys2Proof.Machine.execStop s
  | .hpulse => Sys2Proof.Machine.execHpulse s
  | .spur => Sys2Proof.Machine.execSpur s
  | .tick => Sys2Proof.Machine.execTick s
  | .rdlc => Sys2Proof.Machine.execRdlc s
  | .ppoll => Sys2Proof.Machine.execPpoll s
  | .pbegin => Sys2Proof.Machine.execPbegin s
  | .pdrive r g b => Sys2Proof.Machine.execPdrive r g b s
  | .pblank => Sys2Proof.Machine.execPblank s
  | .pwait => Sys2Proof.Machine.execPwait s
  | .hclk => Sys2Proof.Machine.execHclk s

end Sys2Proof.Machine
end

