-- ==== Sys2Proof/Machine/OpTable.lean ====
section
/-! DEFINITION. The columns of the operation table that no meaning reads (spec/30_encoding.md R62): mnemonic, format,
agent, level; the execution context of an agent (spec/60_exceptions.md R151); and the text of an operation in a trace
(R68). -/

namespace Sys2Proof.Machine

/-- The mnemonic column of R62. -/
def mnemonic : Instr → String
  | .reset => "RESET"
  | .start => "START"
  | .stop => "STOP"
  | .hpulse => "HPULSE"
  | .spur => "SPUR"
  | .tick => "TICK"
  | .rdlc => "RDLC"
  | .ppoll => "PPOLL"
  | .pbegin => "PBEGIN"
  | .pdrive _ _ _ => "PDRIVE"
  | .pblank => "PBLANK"
  | .pwait => "PWAIT"
  | .hclk => "HCLK"

/-- The format column of R62. -/
def opFormat : Instr → Format
  | .pdrive _ _ _ => .p
  | .reset | .start | .stop | .hpulse | .spur | .tick | .rdlc | .ppoll | .pbegin | .pblank | .pwait | .hclk => .z

/-- The agent column of R62: "Each operation belongs to exactly one agent" (spec/00_scope.md R7). -/
def agentOf : Instr → Agent
  | .reset | .start | .stop => .host
  | .hpulse | .hclk => .hgen
  | .spur => .env
  | .tick => .irq
  | .rdlc | .ppoll | .pbegin | .pdrive _ _ _ | .pblank | .pwait => .main

/-- The level column of R62 (spec/00_scope.md R6). A property of schedules: no guard reads it (R170; log 14). -/
def levelOf : Instr → OpLevel
  | .hpulse => .line
  | .hclk => .tick
  | .reset | .start | .stop | .spur | .tick | .rdlc | .ppoll | .pbegin | .pdrive _ _ _ | .pblank | .pwait => .both

/-- The execution context an agent is, if it is one (R151). -/
def contextOf : Agent → Option Context
  | .irq => some .interrupt
  | .main => some .mainLoop
  | .host | .hgen | .env => none

/-- An operation as a trace writes it: the mnemonic, PDRIVE followed by its levels as one digit (R68). -/
def traceText : Instr → String
  | .pdrive r g b => mnemonic (.pdrive r g b) ++ " " ++ toString (driveDigit r g b).toNat
  | i => mnemonic i

end Sys2Proof.Machine
end

