-- ==== Sys2Proof/Machine/Sequence.lean ====
section
/-! DEFINITION. Schedules and runs (spec/30_encoding.md R68, R69): how a step takes its operation from the schedule, the
run of an admissible trace, the state after each operation of a schedule, and the pseudo-operations. -/

namespace Sys2Proof.Machine

/-- The next byte of the schedule and the state that has it taken off. The block fetches nothing (spec/10_state.md R26);
the schedule is the list of the agents' coming steps (log 1). -/
def nextByte (s : State) : Option (Byte × State) :=
  match s.sched with
  | [] => none
  | b :: rest => some (b, { s with sched := rest })

/-- One scheduled operation: its meaning, and when its guard refuses it the schedule goes on with nothing changed, as the
spec's own traces do ("-- refused", R68, programs PR4 and PR8 of spec/95_test_vectors.md; log 2). -/
def stepOp (i : Instr) (s : State) : Result :=
  match exec i s with
  | .refused (.notEnabled _) => .next s
  | .refused why => .refused why
  | .fault why => .fault why
  | .next t => .next t

/-- One step of the machine: the next byte of the schedule, decoded and performed (R65; log 3). -/
def stepBody (s : State) : Result :=
  match nextByte s with
  | none => .refused .scheduleEmpty
  | some (b, t) =>
    match decode b with
    | .error why => .refused (.invalidByte b why)
    | .ok i => stepOp i t

/-- The run of an admissible trace: "every operation in it is enabled when reached" (R68); a refusal ends it. -/
def execSeq : List Instr → State → Result
  | [], s => .next s
  | i :: is, s =>
    match exec i s with
    | .next t => execSeq is t
    | .fault why => .fault why
    | .refused why => .refused why

/-- The state after an operation of a schedule: unchanged when it is refused (spec/00_scope.md R8). -/
def afterOp (i : Instr) (s : State) : State :=
  match exec i s with
  | .next t => t
  | .fault _ => s
  | .refused _ => s

/-- Whether an operation is taken, not refused, in a state. -/
def taken (i : Instr) (s : State) : Bool :=
  match exec i s with
  | .next _ => true
  | .fault _ => false
  | .refused _ => false

/-- `INIT` (R69). -/
def opInit : List Instr := [.reset, .start]

/-- `LINE`: one pulse with its handler run (R69). -/
def opLine : List Instr := [.hpulse, .tick]

/-- `LINES n` (R69). -/
def opLines : Nat → List Instr
  | 0 => []
  | n + 1 => opLine ++ opLines n

/-- `FRAME` (R69). -/
def opFrame (c : Cfg) : List Instr := opLines c.vTotal

/-- `PLINE nr ng nb`: the placeholder line, the channels in the order R, G, B (R69, D15). -/
def opPline (nr ng nb : Nat) : List Instr :=
  [.pbegin]
    ++ List.replicate nr (.pdrive true false false) ++ [.pdrive false false false]
    ++ List.replicate ng (.pdrive false true false) ++ [.pdrive false false false]
    ++ List.replicate nb (.pdrive false false true) ++ [.pdrive false false false]
    ++ [.pblank]

/-- `PLINE` with the configured counts (R69). -/
def opPlineCfg (c : Cfg) : List Instr := opPline c.nR c.nG c.nB

/-- `SPIN n` (R69). -/
def opSpin (n : Nat) : List Instr := List.replicate n .pwait

end Sys2Proof.Machine
end

