-- ==== Sys2Proof/Machine/Step.lean ====
section
/-! DEFINITION. One step of the machine, and where the host places the operation the next step performs. -/

namespace Sys2Proof.Machine

/-- One step: the next operation of the schedule (Machine/Sequence.lean says how). -/
def step (s : State) : Host.Outcome State Fault Refusal := stepBody s

/-- `s` with the operation the table writes as `w` on `nbits` bits at the head of the schedule, so that the very next
step performs it (log 1). -/
def State.withFetchWord (s : State) (nbits w : Nat) : State := { s with sched := tableByte nbits w :: s.sched }

end Sys2Proof.Machine
end

