-- ==== Sys2Proof/Safety.lean ====
section
/-! DEFINITION. What counts as a safe run, in the terms the statements use: the invariants of every reachable state
(spec/10_state.md R31), the guard table (spec/70_reset_and_hazards.md R170), the access rights (R29), the life of the
interrupt (spec/60_exceptions.md R143), the degradations (R141), the hazards (R173 to R180), the no-overrun condition NOV
(spec/41_pixel_pacer.md R108), the fairness assumptions (spec/42_pulse_generator_and_lifecycle.md R126) and the relation
of the two levels (R129). None of it restrains the machine. -/

namespace Sys2Proof.Machine

/-! ### Invariants -/

/-- I-1 to I-8 of R31, "under a well-formed `Cfg`". -/
structure Inv (s : State) : Prop where
  cfgWf : s.cfg.wf = true
  /-- I-1. -/
  lcInFrame : s.lc < s.cfg.vTotal
  /-- I-2. -/
  vsyncWindow : s.vsync = false ↔ 1 ≤ s.lc ∧ s.lc ≤ s.cfg.vBpStart
  /-- I-3. -/
  ienEqHrun : s.ien = s.hrun
  /-- I-4. -/
  hirqRuns : s.hirq = true → s.hrun = true
  /-- I-5. -/
  idleIffNoneLeft : s.pst = .idle ↔ s.pleft = 0
  /-- I-6. -/
  pleftBounded : s.pleft ≤ s.cfg.vActiveCount
  /-- I-7. -/
  coloursOff : s.pst ≠ .drive → s.r = false ∧ s.g = false ∧ s.b = false
  /-- I-8. -/
  hcntInPeriod : s.hcnt < s.cfg.hPeriod

/-- The ghost items of eventual mode fit together: HIST has an entry for each `j <= WSEQ`, its newest is LC, a read has
seen none newer (R24), and every entry is a line number; the model's own window counter is not ahead of its counter. -/
structure HistoryOk (s : State) : Prop where
  length : s.hist.length = s.wseq + 1
  newest : s.hist[s.wseq]? = some s.lc
  seen : s.rseq ≤ s.wseq
  lines : ∀ v ∈ s.hist, v < s.cfg.vTotal
  window : s.readWindow ≤ s.freeIdx

/-- The registers of R10 whose width is `LC_WIDTH` hold values that fit it. -/
structure WidthsFit (s : State) : Prop where
  lc : s.lc < 2 ^ s.cfg.lcWidth
  pleft : s.pleft < 2 ^ s.cfg.lcWidth
  marker : s.marker < 2 ^ s.cfg.lcWidth

/-- The invariants together; HIST exists in eventual mode only (R24). -/
structure FullInv (s : State) : Prop where
  base : Inv s
  history : s.cfg.lcVisibility = .eventual → HistoryOk s
  widths : WidthsFit s

/-- The running start state, "the launch state that every claim about a run should start from" (R166). -/
structure RunningStart (s : State) : Prop where
  cfgWf : s.cfg.wf = true
  line : s.lc = 0
  vsyncHigh : s.vsync = true
  coloursOff : s.r = false ∧ s.g = false ∧ s.b = false
  generator : s.hcnt = 0 ∧ s.hirq = false ∧ s.ien = true ∧ s.hrun = true
  pacer : s.pst = .idle ∧ s.pleft = 0 ∧ s.spin = 0

/-! ### Guards, access rights, the interrupt's life -/

/-- The guard column of R170. -/
def opGuard : Instr → State → Bool
  | .reset, _ => true
  | .start, s => !s.hrun && s.cfg.wf
  | .stop, s => s.hrun
  | .hpulse, s => s.hrun
  | .hclk, s => s.hrun
  | .spur, s => s.ien
  | .tick, s => s.ien && s.hirq
  | .rdlc, _ => true
  | .ppoll, s => s.pst == .idle
  | .pbegin, s => s.pst == .begin
  | .pdrive _ _ _, s => s.pst == .drive
  | .pblank, s => s.pst == .drive
  | .pwait, s => s.pst == .wait

/-- The rows of R29, HRUN and IEN apart. -/
inductive Item where
  | lc | vsync | colour | hirq | hcnt | hrun | ien | pacer | stuck | config
  deriving DecidableEq, Repr

/-- The "W" of R29. -/
def mayWrite : Agent → Item → Bool
  | .irq, .lc | .irq, .vsync | .irq, .hirq | .irq, .hcnt => true
  | .main, .colour | .main, .pacer | .main, .stuck => true
  | .hgen, .hirq | .hgen, .hcnt => true
  | .env, .hirq => true
  | .host, .config => false
  | .host, _ => true
  | _, _ => false

/-- The "R" of R29; and HOST reads HRUN and Cfg, which the guards of START and STOP name (R122, R123; log 20). -/
def mayRead : Agent → Item → Bool
  | .irq, .lc | .irq, .hirq | .irq, .ien | .irq, .config => true
  | .main, .lc | .main, .pacer | .main, .config => true
  | .hgen, .hcnt | .hgen, .hrun | .hgen, .config => true
  | .env, .ien => true
  | .host, .hrun | .host, .config => true
  | _, _ => false

/-- `s` with item `x` as `u` has it. -/
def copyItem (x : Item) (u s : State) : State :=
  match x with
  | .lc => { s with lc := u.lc }
  | .vsync => { s with vsync := u.vsync }
  | .colour => { s with r := u.r, g := u.g, b := u.b }
  | .hirq => { s with hirq := u.hirq }
  | .hcnt => { s with hcnt := u.hcnt }
  | .hrun => { s with hrun := u.hrun }
  | .ien => { s with ien := u.ien }
  | .pacer => { s with pst := u.pst, pleft := u.pleft, marker := u.marker, spin := u.spin }
  | .stuck => { s with stuck := u.stuck }
  | .config => { s with cfg := u.cfg }

/-- A function applied to the next state of an answer. -/
def mapNext (f : State → State) : Result → Result
  | .next t => .next (f t)
  | .fault why => .fault why
  | .refused why => .refused why

/-- The "appended by" column of spec/00_scope.md R9. -/
def mayLog : Instr → Event → Bool
  | .hpulse, .pulse | .hpulse, .missed | .hclk, .pulse | .hclk, .missed => true
  | .spur, .spurious => true
  | .tick, .vsFall | .tick, .vsRise => true
  | .pbegin, .draw _ => true
  | _, _ => false

/-- The stages of the interrupt's life (R143) in which a state can stand. -/
inductive IrqStage where
  | disabled | idle | pending
  deriving DecidableEq, Repr

/-- The stage of a state (R143). -/
def irqStage (s : State) : IrqStage :=
  if s.ien then (if s.hirq then .pending else .idle) else .disabled

/-- The handler as R92 says it could be written, with T3 a range test. -/
def execTickRange (s : State) : Result :=
  requires (s.ien && s.hirq) .tick
    (if s.lc < s.cfg.vTotal then
      let t := acknowledge (rebaseline s)
      .next (advanceLine s.lc (if s.lc < s.cfg.vBpStart then clearVsync t else setVsync t))
    else .refused .lineOutOfRange)

/-! ### Runs -/

/-- Neither RESET nor START nor STOP is among the operations. -/
def hostFree (is : List Instr) : Bool := is.all fun i => agentOf i != .host

/-- The pre-values of a run's TICKs, in order (spec/40_vertical_state_machine.md R83). -/
def preValues (s : State) : List Instr → List Nat
  | [] => []
  | i :: is => (if i = .tick && taken i s then [s.lc] else []) ++ preValues (afterOp i s) is

/-- The markers of the "draw line" calls of a log (R9). -/
def drawMarkers (es : List Event) : List Nat :=
  es.filterMap fun e => match e with
    | .draw m => some m
    | .pulse | .missed | .spurious | .vsFall | .vsRise => none

/-- Every operation of a schedule satisfies `p` in the state that reaches it. -/
def alongRun (p : Instr → State → Bool) (s : State) : List Instr → Bool
  | [] => true
  | i :: is => p i s && alongRun p (afterOp i s) is

/-! ### Pulses, degradations (R141) and hazards (R173 to R180)

A refused operation "has no step" (spec/00_scope.md R8), so in each of these it counts as one that did not happen (log 25). -/

/-- Operation `j` happens: `i` is `j` and is taken, not refused (R8; log 25). -/
def happens (j i : Instr) (s : State) : Bool := i == j && taken i s

/-- The operation is a pulse boundary: HPULSE, or HCLK on wrap (R9). -/
def pulses (i : Instr) (s : State) : Bool :=
  s.hrun && (i == .hpulse || (i == .hclk && s.counterWraps))

/-- A colour output is driven. -/
def lit (s : State) : Bool := s.r || s.g || s.b

/-- OVERRUN: "a TICK while `PST` is BEGIN or DRIVE" (R141). -/
def overruns (i : Instr) (s : State) : Bool := happens .tick i s && (s.pst == .begin || s.pst == .drive)

/-- BLEED: a pulse while R, G or B is 1 (R141). -/
def bleeds (i : Instr) (s : State) : Bool := pulses i s && lit s

/-- MISSED: a pulse while HIRQ is 1 (R141). -/
def misses (i : Instr) (s : State) : Bool := pulses i s && s.hirq

/-- SPURIOUS, its first half: SPUR raises the request (R141). -/
def isSpurious (i : Instr) (s : State) : Bool := happens .spur i s

/-- SPURIOUS: "SPUR then TICK" (R141), a TICK that serves a request SPUR has raised and no HOST operation has cleared since.
`raised` says such a request is pending before these operations. -/
def spurious (raised : Bool) (s : State) : List Instr → Bool
  | [] => false
  | i :: is =>
    (raised && happens .tick i s) ||
      spurious (isSpurious i s || (raised && (afterOp i s).hirq)) (afterOp i s) is

/-- PPOLL reads `V_ACTIVE_START` and enters a burst (R102). -/
def entersBurst (i : Instr) (s : State) : Bool :=
  i == .ppoll && s.pst == .idle && (rdLC s).1 == s.cfg.vActiveStart

/-- SKIPPED: no PPOLL of these operations, a frame's, reads `V_ACTIVE_START` (R141). -/
def skips (s : State) (is : List Instr) : Bool := alongRun (fun i t => !entersBurst i t) s is

/-- STALL: in these operations `n` TICKs or more happen and none of MAIN's (R141: "MAIN takes no step for a long time"; how
long is the argument `n`, log 24). -/
def stalls (n : Nat) (s : State) (is : List Instr) : Bool :=
  decide (n ≤ (preValues s is).length) && alongRun (fun i t => !(agentOf i == .main && taken i t)) s is

/-- HZ1, the handler's deadline (R173): no pulse finds the request of the one before still pending. -/
def handlerDeadline (s : State) (is : List Instr) : Bool := alongRun (fun i t => !misses i t) s is

/-- HZ2, the line budget, its first half: `NOV` (b), "no TICK happens while `PST` is BEGIN or DRIVE" (R174, R108). -/
def lineBudget (s : State) (is : List Instr) : Bool := alongRun (fun i t => !overruns i t) s is

/-- HZ3: the colours are off at every pulse (R175). -/
def coloursOffAtPulse (s : State) (is : List Instr) : Bool := alongRun (fun i t => !bleeds i t) s is

/-- The pacer's operations that read LC (R108: "PPOLL, PBEGIN or PWAIT"). -/
def pacerReads (i : Instr) : Bool := i == .ppoll || i == .pbegin || i == .pwait

/-- HZ4, the poll rate: `NOV` (a), "between any two consecutive TICKs the pacer performs at least one operation that reads
LC whenever PST is IDLE or WAIT at the first of them" (R176, R108; log 24). `owed` says a read is still owed since the last
TICK. -/
def pollRate (owed : Bool) (s : State) : List Instr → Bool
  | [] => true
  | i :: is =>
    if happens .tick i s then !owed && pollRate (s.pst == .idle || s.pst == .wait) (afterOp i s) is
    else pollRate (owed && !(pacerReads i && taken i s)) (afterOp i s) is

/-- The no-overrun condition `NOV` (R108), both halves. -/
def nov (s : State) (is : List Instr) : Bool := pollRate false s is && lineBudget s is

/-- HZ7 (R179), in the form of spec/93_implementation_defined.md U6, "fewer than `V_TOTAL` TICKs happened since PBEGIN" at
every PWAIT (log 24); `n` is the number of TICKs since the last PBEGIN. -/
def noFrameStall (n : Nat) (s : State) : List Instr → Bool
  | [] => true
  | i :: is =>
    (!happens .pwait i s || decide (n < s.cfg.vTotal)) &&
      noFrameStall (if happens .pbegin i s then 0 else if happens .tick i s then n + 1 else n) (afterOp i s) is

/-! ### The two levels (R129) -/

/-- A state with HCNT erased; HSYNC goes with it, being a function of HCNT (R128). -/
def eraseCounter (s : State) : State := { s with hcnt := 0 }

/-- The line-level image of a tick-level run: "replacing every HCLK that wraps by an HPULSE and deleting every HCLK that
does not" (R129). -/
def lineImage (s : State) : List Instr → List Instr
  | [] => []
  | i :: is => (if i = .hclk then (if s.counterWraps then [.hpulse] else []) else [i]) ++ lineImage (afterOp i s) is

/-! ### Runs without end (R182) and fairness (R126) -/

/-- A schedule without end. -/
abbrev Schedule := Nat → Instr

/-- The state before operation `n` of a schedule, refused operations changing nothing. -/
def stateAt (σ : Schedule) (s : State) : Nat → State
  | 0 => s
  | n + 1 => afterOp (σ n) (stateAt σ s n)

/-- F-1: "if HRUN = 1 for ever, HPULSE happens infinitely often", from any moment on. -/
def GeneratorPulses (σ : Schedule) (s : State) : Prop :=
  ∀ n, (∀ m, n ≤ m → (stateAt σ s m).hrun = true) → ∃ m, n ≤ m ∧ pulses (σ m) (stateAt σ s m) = true

/-- F-2: "if IEN = 1 and HIRQ = 1, then TICK happens before the next HPULSE"; a refused TICK does not happen (log 25). A
request that a HOST operation drops (R123) still owes its TICK before the next pulse: F-2 is read to the letter (log 26). -/
def HandlerInTime (σ : Schedule) (s : State) : Prop :=
  ∀ n m, n ≤ m → (stateAt σ s n).ien = true → (stateAt σ s n).hirq = true →
    pulses (σ m) (stateAt σ s m) = true → ∃ k, n ≤ k ∧ k < m ∧ happens .tick (σ k) (stateAt σ s k) = true

/-- F-3: "between two HPULSEs it [MAIN] performs at least one operation". -/
def MainNotStarved (σ : Schedule) (s : State) : Prop :=
  ∀ n m, n < m → pulses (σ n) (stateAt σ s n) = true → pulses (σ m) (stateAt σ s m) = true →
    ∃ k, n < k ∧ k < m ∧ agentOf (σ k) = .main ∧ taken (σ k) (stateAt σ s k) = true

end Sys2Proof.Machine
end

