-- ==== Sys2Proof/Certificates/Slice0/Obligations.lean ====
section
/-! DEFINITION. The statements for the provers, each from the numbered rules of spec/ that its docstring names. -/

open Sys2Proof Sys2Proof.Machine

/-! ### Encoding and schedule -/

/-- R60 to R65: decoding the bytes of any trace of well-formed operations gives the trace back, and a byte sequence that
decodes is the encoding of what it decodes to (so no two byte sequences mean one trace). -/
def Obligations.TraceDecodeEncodeAgree : Prop :=
  (∀ is : List Instr, (∀ i ∈ is, i.wf = true) → decodeTrace (encodeTrace is) = .ok is) ∧
  (∀ (bs : List Byte) (is : List Instr), decodeTrace bs = .ok is → encodeTrace is = bs ∧ ∀ i ∈ is, i.wf = true)

/-- R65: which bytes are illegal, with the reason named; 20 are legal; an illegal byte has no step. -/
def Obligations.IllegalBytesRefused : Prop :=
  (∀ b : Byte, decode b = .error .reservedOpc ↔ (b.toNat / 16 = 0 ∨ b.toNat / 16 = 14 ∨ b.toNat / 16 = 15)) ∧
  (∀ b : Byte, decode b = .error .argNotZero ↔
    (1 ≤ b.toNat / 16 ∧ b.toNat / 16 ≤ 13 ∧ b.toNat / 16 ≠ 10 ∧ b.toNat % 16 ≠ 0)) ∧
  (∀ b : Byte, decode b = .error .argBit3Set ↔ (b.toNat / 16 = 10 ∧ 8 ≤ b.toNat % 16)) ∧
  ((List.range 256).filter fun n => (decodeTableWord 8 n).isSome).length = 20 ∧
  (∀ (s : State) (b : Byte) (bs : List Byte) (why : DecodeError),
    s.sched = b :: bs → decode b = .error why → step s = .refused (.invalidByte b why))

/-- R61, R62: words written out from the table of R62 decode to their operations. A sanity statement. -/
def Obligations.TableBytesDecode : Prop :=
  decode 0b00010000#8 = .ok .reset ∧ decode 0b01000000#8 = .ok .hpulse ∧ decode 0b01100000#8 = .ok .tick ∧
  decode 0b10010000#8 = .ok .pbegin ∧ decode 0b10100100#8 = .ok (.pdrive true false false) ∧
  decode 0b10100010#8 = .ok (.pdrive false true false) ∧ decode 0b10100001#8 = .ok (.pdrive false false true) ∧
  decode 0b11000000#8 = .ok .pwait ∧ decode 0b11010000#8 = .ok .hclk

/-- A step performs the next operation of the schedule: with `b` at its head and `b` decoding to `i`, the step is the
meaning of `i` on the state with `b` taken off, and where the guard of `i` refuses it the schedule goes on with nothing
else changed (the model's choice, log 1 and log 2, after the traces PR4 and PR8 of the spec). -/
def Obligations.StepPerformsScheduledOperation : Prop :=
  ∀ (s : State) (b : Byte) (bs : List Byte) (i : Instr), s.sched = b :: bs → decode b = .ok i →
    (∀ t, exec i { s with sched := bs } = .next t → step s = .next t) ∧
    (∀ j, exec i { s with sched := bs } = .refused (.notEnabled j) → step s = .next { s with sched := bs }) ∧
    (∀ why, (∀ j, why ≠ .notEnabled j) → exec i { s with sched := bs } = .refused why → step s = .refused why)

/-! ### Lifecycle -/

/-- R121 and R30: RESET, from any state. MARKER is left unspecified, so nothing is said of it. That RESET leaves the schedule
and the results of RDLC is the model's choice (log 21), both being fields of its own. -/
def Obligations.ResetOperation : Prop :=
  decode 0x10#8 = .ok .reset ∧ agentOf .reset = .host ∧
  (∀ s : State, ∃ t, exec .reset s = .next t ∧
    t.lc = 0 ∧ t.vsync = true ∧ t.r = false ∧ t.g = false ∧ t.b = false ∧
    t.hrun = false ∧ t.ien = false ∧ t.hirq = false ∧ t.hcnt = 0 ∧ t.hsync = (!s.cfg.hsyncActive) ∧
    t.pst = .idle ∧ t.pleft = 0 ∧ t.spin = 0 ∧ t.stuck = false ∧ t.log = [] ∧
    (s.cfg.lcVisibility = .eventual → t.wseq = 0 ∧ t.rseq = 0 ∧ t.hist = [0]) ∧
    t.cfg = s.cfg ∧ t.sched = s.sched ∧ t.results = s.results) ∧
  (∀ (i : Instr) (s t : State), exec i s = .next t → s.stuck = true → t.stuck = false → i = .reset)

/-- R122: START, its guard, and everything it writes; STUCK, MARKER and the log stay. That it leaves the schedule and the
results (log 21), and what it writes to `readWindow` (log 9), is the model's choice: the three are fields of its own. -/
def Obligations.StartOperation : Prop :=
  decode 0x20#8 = .ok .start ∧ agentOf .start = .host ∧
  (∀ s : State, s.hrun = false → s.cfg.wf = true → s.cfg.lcVisibility = .immediate →
    exec .start s = .next { s with
      lc := 0, vsync := true, r := false, g := false, b := false, pst := .idle, pleft := 0, spin := 0,
      hcnt := 0, hirq := false, ien := true, hrun := true }) ∧
  (∀ s : State, s.hrun = false → s.cfg.wf = true → s.cfg.lcVisibility = .eventual →
    exec .start s = .next { s with
      lc := 0, vsync := true, r := false, g := false, b := false, pst := .idle, pleft := 0, spin := 0,
      hcnt := 0, hirq := false, ien := true, hrun := true, wseq := 0, rseq := 0, hist := [0],
      readWindow := s.freeIdx }) ∧
  (∀ s : State, s.hrun = true ∨ s.cfg.wf = false → exec .start s = .refused (.notEnabled .start))

/-- R123: STOP, its guard and its effect; the pacer's operations stay enabled. That STOP leaves the schedule and the results of
RDLC is the model's choice (log 21), both being fields of its own. -/
def Obligations.StopOperation : Prop :=
  decode 0x30#8 = .ok .stop ∧ agentOf .stop = .host ∧
  (∀ s : State, s.hrun = true →
    exec .stop s = .next { s with hrun := false, ien := false, hirq := false } ∧
    ∀ i, agentOf i = .main → opGuard i { s with hrun := false, ien := false, hirq := false } = opGuard i s) ∧
  (∀ s : State, s.hrun = false → exec .stop s = .refused (.notEnabled .stop))

/-- R166: after `RESET ; START` from any state with a well-formed configuration the machine is in the running start state,
and the first LINE then has pre-value 0, logs `VsFall` and takes VSYNC low. The start level of VSYNC and LC are the spec's
decision D5. -/
def Obligations.InitReachesRunningStart : Prop :=
  ∀ s : State, s.cfg.wf = true →
    (∃ t, execSeq opInit s = .next t ∧ RunningStart t ∧ t.stuck = false ∧ t.cfg = s.cfg) ∧
    (∃ u, execSeq (opInit ++ opLine) s = .next u ∧ u.lc = 1 ∧ u.vsync = false ∧ u.log = [.pulse, .vsFall])

/-- R123 and R106: once stopped in a wait with LC = MARKER, the pacer stays in WAIT, LC stays, whatever is performed, until
START or RESET (immediate visibility). -/
def Obligations.StoppedWaitNeverEnds : Prop :=
  ∀ (s t : State) (is : List Instr), s.cfg.lcVisibility = .immediate → s.hrun = false → s.ien = false →
    s.pst = .wait → s.lc = s.marker → Instr.reset ∉ is → Instr.start ∉ is → execSeq is s = .next t →
    t.pst = .wait ∧ t.lc = s.lc ∧ t.pleft = s.pleft

/-! ### Pulses -/

/-- R124: HPULSE, its guard and its effect; a pulse that finds one pending is merged. -/
def Obligations.HpulseOperation : Prop :=
  decode 0x40#8 = .ok .hpulse ∧ agentOf .hpulse = .hgen ∧
  (∀ s : State, s.hrun = true → s.hirq = false →
    exec .hpulse s = .next { s with hirq := true, log := s.log ++ [.pulse] }) ∧
  (∀ s : State, s.hrun = true → s.hirq = true →
    exec .hpulse s = .next { s with log := s.log ++ [.missed, .pulse] }) ∧
  (∀ s : State, s.hrun = false → exec .hpulse s = .refused (.notEnabled .hpulse))

/-- R125: SPUR, its guard and its effect. -/
def Obligations.SpurOperation : Prop :=
  decode 0x50#8 = .ok .spur ∧ agentOf .spur = .env ∧
  (∀ s : State, s.ien = true → exec .spur s = .next { s with hirq := true, log := s.log ++ [.spurious] }) ∧
  (∀ s : State, s.ien = false → exec .spur s = .refused (.notEnabled .spur))

/-- R127: HCLK, its guard, the count and the wrap. -/
def Obligations.HclkOperation : Prop :=
  decode 0xD0#8 = .ok .hclk ∧ agentOf .hclk = .hgen ∧
  (∀ s : State, s.hrun = true → s.hcnt + 1 ≠ s.cfg.hPeriod →
    exec .hclk s = .next { s with hcnt := s.hcnt + 1 }) ∧
  (∀ s : State, s.hrun = true → s.hcnt + 1 = s.cfg.hPeriod → s.hirq = false →
    exec .hclk s = .next { s with hcnt := 0, hirq := true, log := s.log ++ [.pulse] }) ∧
  (∀ s : State, s.hrun = true → s.hcnt + 1 = s.cfg.hPeriod → s.hirq = true →
    exec .hclk s = .next { s with hcnt := 0, log := s.log ++ [.missed, .pulse] }) ∧
  (∀ s : State, s.hrun = false → exec .hclk s = .refused (.notEnabled .hclk))

/-- R127 and R128: the waveform of HSYNC. From the start of a period, `n < H_PERIOD` time units later the pin is at its
active level exactly in the first `H_PULSE_WIDTH` units; after `H_PERIOD` units the period starts again with one more
`Pulse`; and in every state the pin is active exactly when the generator runs and its counter is inside the pulse. -/
def Obligations.HsyncWaveform : Prop :=
  (∀ (s : State) (n : Nat), s.cfg.wf = true → s.hrun = true → s.hcnt = 0 → n < s.cfg.hPeriod →
    ∃ t, execSeq (List.replicate n .hclk) s = .next t ∧ t.hcnt = n ∧
      (t.hsync = s.cfg.hsyncActive ↔ n < s.cfg.hPulseWidth)) ∧
  (∀ s : State, s.cfg.wf = true → s.hrun = true → s.hcnt = 0 → s.hirq = false →
    execSeq (List.replicate s.cfg.hPeriod .hclk) s = .next { s with hirq := true, log := s.log ++ [.pulse] }) ∧
  (∀ s : State, s.hsync = s.cfg.hsyncActive ↔ s.hrun = true ∧ s.hcnt < s.cfg.hPulseWidth)

/-- R143: the life of the interrupt, as operations move a state through its stages, and the word CTRL (R25) in each. -/
def Obligations.InterruptLife : Prop :=
  (∀ s t : State, exec .reset s = .next t ∨ exec .stop s = .next t → irqStage t = .disabled ∧ t.ctrl = 0#3) ∧
  (∀ s t : State, exec .start s = .next t → irqStage t = .idle ∧ t.ctrl = 3#3) ∧
  (∀ s t : State, s.hrun = true → exec .tick s = .next t →
    irqStage s = .pending ∧ irqStage t = .idle ∧ s.ctrl = 7#3 ∧ t.ctrl = 3#3) ∧
  (∀ (i : Instr) (s t : State), s.ien = true → exec i s = .next t →
    (i = .spur ∨ pulses i s = true) → irqStage t = .pending) ∧
  (∀ (i : Instr) (s t : State), agentOf i = .main → exec i s = .next t →
    irqStage t = irqStage s ∧ t.ctrl = s.ctrl)

/-- R124, R125, R178: one bit of request remembers one pulse, so in any run without HOST operations the TICKs performed,
and the request still pending, never outnumber the requests raised (pulses, spurious triggers, and the one pending at the
start). -/
def Obligations.TicksNeverOutnumberRequests : Prop :=
  ∀ (s t : State) (is : List Instr), hostFree is = true → execSeq is s = .next t →
    ∃ es, t.log = s.log ++ es ∧
      is.count .tick + t.hirq.toNat ≤ s.hirq.toNat + es.count .pulse + es.count .spurious

/-! ### The vertical state machine -/

/-- R82 to R87: TICK, its guard, and the four sub-steps on the pre-value; everything else stays (R88), but for the ghost
items of eventual mode (R24). Two clauses are the model's own: with LC outside the frame it refuses by name (log 12, read
from U1), and in eventual mode it sets `readWindow`, a field of the model's (log 9). -/
def Obligations.TickOperation : Prop :=
  decode 0x60#8 = .ok .tick ∧ agentOf .tick = .irq ∧
  (∀ s : State, s.ien = true → s.hirq = true → s.lc < s.cfg.vTotal →
    ∃ t, exec .tick s = .next t ∧
      t = { s with
        hcnt := 0, hirq := false,
        vsync := if s.lc = 0 then false else if s.lc = s.cfg.vBpStart then true else s.vsync,
        lc := if s.lc + 1 = s.cfg.vTotal then 0 else s.lc + 1,
        log := s.log ++
          (if s.lc = 0 then (if s.vsync = true then [Event.vsFall] else [])
           else if s.lc = s.cfg.vBpStart then (if s.vsync = false then [Event.vsRise] else []) else []),
        wseq := t.wseq, hist := t.hist, readWindow := t.readWindow } ∧
      (s.cfg.lcVisibility = .immediate → t.wseq = s.wseq ∧ t.hist = s.hist ∧ t.readWindow = s.readWindow) ∧
      (s.cfg.lcVisibility = .eventual →
        t.wseq = s.wseq + 1 ∧ t.hist = s.hist ++ [t.lc] ∧ t.readWindow = s.freeIdx)) ∧
  (∀ s : State, s.ien = false ∨ s.hirq = false → exec .tick s = .refused (.notEnabled .tick)) ∧
  (∀ s : State, s.ien = true → s.hirq = true → s.cfg.vTotal ≤ s.lc → exec .tick s = .refused .lineOutOfRange)

/-- R81: under a well-formed configuration every line of the frame has exactly the phase of its interval, each of the four
phases has a line, and no phase is defined beyond the frame. -/
def Obligations.PhasesPartitionFrame : Prop :=
  ∀ c : Cfg, c.wf = true →
    (∀ k, phase c k = some .sync ↔ k < c.vBpStart) ∧
    (∀ k, phase c k = some .backPorch ↔ c.vBpStart ≤ k ∧ k < c.vActiveStart) ∧
    (∀ k, phase c k = some .active ↔ c.vActiveStart ≤ k ∧ k < c.vFpStart) ∧
    (∀ k, phase c k = some .frontPorch ↔ c.vFpStart ≤ k ∧ k < c.vTotal) ∧
    (∀ k, phase c k = none ↔ c.vTotal ≤ k) ∧
    (∀ p : Phase, ∃ k, k < c.vTotal ∧ phase c k = some p)

/-- R91: the sync window. For every TICK of a run from a state that satisfies the invariants, with pre-value `k`: after it
VSYNC is low if and only if `phase(k)` is SYNC. -/
def Obligations.SyncWindow : Prop :=
  ∀ (s u t : State) (is : List Instr), Inv s → execSeq is s = .next u → exec .tick u = .next t →
    (t.vsync = false ↔ phase u.cfg u.lc = some .sync)

/-- R92: in every state that satisfies the invariants, the handler with T3 written as a range test is the same operation:
same state, same log. -/
def Obligations.EdgeFormIsRangeForm : Prop :=
  ∀ s : State, Inv s → exec .tick s = execTickRange s

/-- R86: a run without HOST operations moves LC by its number of TICKs, modulo the frame. -/
def Obligations.LineCountsTicksModuloFrame : Prop :=
  ∀ (s t : State) (is : List Instr), s.lc < s.cfg.vTotal → hostFree is = true → execSeq is s = .next t →
    t.lc = (s.lc + is.count .tick) % s.cfg.vTotal

/-- R90: periodicity. A run with exactly `V_TOTAL` TICKs, whatever HPULSE, HCLK, SPUR and pacer operations are interleaved,
ends with LC where it began; its pre-values are the lines of the frame, each once; and from a state that satisfies I-2
(here with I-1 and a well-formed configuration) it logs exactly one `VsFall` and one `VsRise`. -/
def Obligations.FramePeriodicity : Prop :=
  ∀ (s t : State) (is : List Instr), s.cfg.wf = true → s.lc < s.cfg.vTotal → hostFree is = true →
    is.count .tick = s.cfg.vTotal → execSeq is s = .next t →
    t.lc = s.lc ∧ (preValues s is).Perm (List.range s.cfg.vTotal) ∧
    ((s.vsync = false ↔ 1 ≤ s.lc ∧ s.lc ≤ s.cfg.vBpStart) →
      ∃ es, t.log = s.log ++ es ∧ es.count .vsFall = 1 ∧ es.count .vsRise = 1)

/-- R69 and R86: `LINES n` runs from every running state with no pulse pending, and moves LC by `n` lines of the frame. -/
def Obligations.LinesRunFromRunningState : Prop :=
  ∀ (s : State) (n : Nat), Inv s → s.hrun = true → s.hirq = false →
    ∃ t, execSeq (opLines n) s = .next t ∧ t.lc = (s.lc + n) % s.cfg.vTotal ∧ t.hirq = false ∧
      t.hrun = true ∧ t.pst = s.pst

/-- R126 and R91: under the fairness F-1 and F-2, a running machine that satisfies the invariants and meets no HOST
operation takes VSYNC low again and again for ever. -/
def Obligations.VsyncFallsForEver : Prop :=
  ∀ (σ : Schedule) (s : State), Inv s → s.hrun = true → (∀ n, agentOf (σ n) ≠ .host) →
    GeneratorPulses σ s → HandlerInTime σ s →
    ∀ n, ∃ m, n ≤ m ∧ (stateAt σ s m).vsync = true ∧ (stateAt σ s (m + 1)).vsync = false

/-! ### Reading LineCounter -/

/-- R44: in immediate mode a read returns the current LC and changes nothing, so RDLC returns LC and leaves all but the
list of results, which is the model's own (log 15). -/
def Obligations.ImmediateReadReturnsLine : Prop :=
  ∀ s : State, s.cfg.lcVisibility = .immediate →
    rdLC s = (s.lc, s) ∧ exec .rdlc s = .next { s with results := s.results ++ [s.lc] }

/-- R45: in eventual mode a read returns `HIST(j)` for some `j` with `RSEQ <= j <= WSEQ` and sets RSEQ to `j`; so along
every run without HOST operations RSEQ never falls, and a later read never returns an older write (coherence); and if MAIN
keeps reading and nothing else happens, some read returns `HIST(WSEQ)` (eventually). The last holds by the model's own bound
on the lag (log 9) and reads the value in its list of results (log 15); the counter `freeIdx` is the model's too (log 9). -/
def Obligations.EventualReads : Prop :=
  (∀ s : State, s.cfg.lcVisibility = .eventual → HistoryOk s →
    ∃ j v, s.rseq ≤ j ∧ j ≤ s.wseq ∧ s.hist[j]? = some v ∧
      rdLC s = (v, { s with rseq := j, freeIdx := s.freeIdx + 1 })) ∧
  (∀ (s t : State) (is : List Instr), s.cfg.lcVisibility = .eventual → FullInv s → hostFree is = true →
    execSeq is s = .next t → s.rseq ≤ t.rseq ∧ t.rseq ≤ t.wseq) ∧
  (∀ s : State, s.cfg.lcVisibility = .eventual → HistoryOk s →
    ∃ n t, execSeq (List.replicate (n + 1) .rdlc) s = .next t ∧ t.rseq = s.wseq ∧
      t.results.getLast? = s.hist[s.wseq]?)

/-! ### The pacer -/

/-- R101: RDLC is enabled in every state, returns `RdLC()`, and changes no architectural state. Where the result goes, the list
of results, is the model's choice (log 15). -/
def Obligations.RdlcOperation : Prop :=
  decode 0x70#8 = .ok .rdlc ∧ agentOf .rdlc = .main ∧
  (∀ s : State, ∃ t, exec .rdlc s = .next t ∧ t.results = s.results ++ [(rdLC s).1] ∧
    t = { s with results := t.results, rseq := (rdLC s).2.rseq, freeIdx := (rdLC s).2.freeIdx } ∧
    (s.cfg.lcVisibility = .immediate → t.rseq = s.rseq ∧ t.freeIdx = s.freeIdx))

/-- R102: PPOLL, its guard, and both outcomes; outside of RSEQ and the model's counter of reads (eventual mode, log 9) a miss
changes nothing. -/
def Obligations.PpollOperation : Prop :=
  decode 0x80#8 = .ok .ppoll ∧ agentOf .ppoll = .main ∧
  (∀ s : State, s.pst = .idle → (rdLC s).1 = s.cfg.vActiveStart →
    exec .ppoll s = .next { s with
      pleft := s.cfg.vActiveCount, pst := .begin, rseq := (rdLC s).2.rseq, freeIdx := (rdLC s).2.freeIdx }) ∧
  (∀ s : State, s.pst = .idle → (rdLC s).1 ≠ s.cfg.vActiveStart →
    exec .ppoll s = .next { s with rseq := (rdLC s).2.rseq, freeIdx := (rdLC s).2.freeIdx }) ∧
  (∀ s : State, s.cfg.lcVisibility = .immediate → s.pst = .idle → s.lc ≠ s.cfg.vActiveStart →
    exec .ppoll s = .next s) ∧
  (∀ s : State, s.pst ≠ .idle → exec .ppoll s = .refused (.notEnabled .ppoll))

/-- R103: PBEGIN, its guard, the capture and the `Draw` event. RSEQ and `freeIdx`, the model's counter (log 9), are left as the
read leaves them. -/
def Obligations.PbeginOperation : Prop :=
  decode 0x90#8 = .ok .pbegin ∧ agentOf .pbegin = .main ∧
  (∀ s : State, s.pst = .begin →
    exec .pbegin s = .next { s with
      marker := (rdLC s).1, pst := .drive, log := s.log ++ [.draw (rdLC s).1],
      rseq := (rdLC s).2.rseq, freeIdx := (rdLC s).2.freeIdx }) ∧
  (∀ s : State, s.cfg.lcVisibility = .immediate → s.pst = .begin →
    exec .pbegin s = .next { s with marker := s.lc, pst := .drive, log := s.log ++ [.draw s.lc] }) ∧
  (∀ s : State, s.pst ≠ .begin → exec .pbegin s = .refused (.notEnabled .pbegin))

/-- R104: PDRIVE, its operand bits, its guard and its effect. -/
def Obligations.PdriveOperation : Prop :=
  (∀ r g b : Bool, decode (BitVec.ofNat 8 (0xA0 + 4 * r.toNat + 2 * g.toNat + b.toNat)) = .ok (.pdrive r g b) ∧
    agentOf (.pdrive r g b) = .main) ∧
  (∀ (r g b : Bool) (s : State), s.pst = .drive → exec (.pdrive r g b) s = .next { s with r := r, g := g, b := b }) ∧
  (∀ (r g b : Bool) (s : State), s.pst ≠ .drive →
    exec (.pdrive r g b) s = .refused (.notEnabled (.pdrive r g b)))

/-- R105: PBLANK, its guard and its effect, whatever the outputs are; it is the only way from DRIVE to WAIT. -/
def Obligations.PblankOperation : Prop :=
  decode 0xB0#8 = .ok .pblank ∧ agentOf .pblank = .main ∧
  (∀ s : State, s.pst = .drive →
    exec .pblank s = .next { s with r := false, g := false, b := false, spin := 0, pst := .wait }) ∧
  (∀ s : State, s.pst ≠ .drive → exec .pblank s = .refused (.notEnabled .pblank)) ∧
  (∀ (i : Instr) (s t : State), s.pst = .drive → exec i s = .next t → t.pst = .wait → i = .pblank)

/-- R106: PWAIT, its guard and its branches: the wait ends, spins, or meets the bound. RSEQ and `freeIdx`, the model's counter
(log 9), are left as the read leaves them. -/
def Obligations.PwaitOperation : Prop :=
  decode 0xC0#8 = .ok .pwait ∧ agentOf .pwait = .main ∧
  (∀ s : State, s.pst = .wait → (rdLC s).1 ≠ s.marker → 1 ≤ s.pleft →
    exec .pwait s = .next { s with
      pleft := s.pleft - 1, pst := if s.pleft = 1 then .idle else .begin,
      rseq := (rdLC s).2.rseq, freeIdx := (rdLC s).2.freeIdx }) ∧
  (∀ (s : State) (n : Nat), s.pst = .wait → (rdLC s).1 = s.marker → s.cfg.spinBound = some n → n ≤ s.spin →
    exec .pwait s = .next { s with
      stuck := true, rseq := (rdLC s).2.rseq, freeIdx := (rdLC s).2.freeIdx }) ∧
  (∀ s : State, s.pst = .wait → (rdLC s).1 = s.marker → (∀ n, s.cfg.spinBound = some n → s.spin < n) →
    exec .pwait s = .next { s with
      spin := s.spin + 1, rseq := (rdLC s).2.rseq, freeIdx := (rdLC s).2.freeIdx }) ∧
  (∀ s : State, s.pst ≠ .wait → exec .pwait s = .refused (.notEnabled .pwait))

/-- R107: the complete transition relation of PST. An operation of MAIN that is taken is one of the table's rows, with the
row's writes and no other, so a pair that is no row is not taken; a false guard is a refusal; and no operation of the other
agents but HOST changes PST, which R107 marks as derived. That RDLC's result goes to a list of results is the model's choice
(log 15). -/
def Obligations.PacerTransitionRelation : Prop :=
  (∀ (i : Instr) (s t : State), agentOf i = .main → exec i s = .next t →
    (i = .ppoll ∧ s.pst = .idle ∧ (rdLC s).1 ≠ s.cfg.vActiveStart ∧ t = (rdLC s).2) ∨
    (i = .ppoll ∧ s.pst = .idle ∧ (rdLC s).1 = s.cfg.vActiveStart ∧
      t = { (rdLC s).2 with pst := .begin, pleft := s.cfg.vActiveCount }) ∨
    (i = .pbegin ∧ s.pst = .begin ∧
      t = { (rdLC s).2 with pst := .drive, marker := (rdLC s).1, log := s.log ++ [.draw (rdLC s).1] }) ∨
    (∃ r g b, i = .pdrive r g b ∧ s.pst = .drive ∧ t = { s with r := r, g := g, b := b }) ∨
    (i = .pblank ∧ s.pst = .drive ∧ t = { s with r := false, g := false, b := false, spin := 0, pst := .wait }) ∨
    (i = .pwait ∧ s.pst = .wait ∧ (rdLC s).1 = s.marker ∧ s.atSpinBound = false ∧
      t = { (rdLC s).2 with spin := s.spin + 1 }) ∨
    (i = .pwait ∧ s.pst = .wait ∧ (rdLC s).1 = s.marker ∧ s.atSpinBound = true ∧
      t = { (rdLC s).2 with stuck := true }) ∨
    (i = .pwait ∧ s.pst = .wait ∧ (rdLC s).1 ≠ s.marker ∧ 1 < s.pleft ∧
      t = { (rdLC s).2 with pst := .begin, pleft := s.pleft - 1 }) ∨
    (i = .pwait ∧ s.pst = .wait ∧ (rdLC s).1 ≠ s.marker ∧ s.pleft = 1 ∧
      t = { (rdLC s).2 with pst := .idle, pleft := 0 }) ∨
    (i = .rdlc ∧ t = { (rdLC s).2 with results := s.results ++ [(rdLC s).1] })) ∧
  (∀ (i : Instr) (s : State), agentOf i = .main → opGuard i s = false → exec i s = .refused (.notEnabled i)) ∧
  (∀ (i : Instr) (s t : State), agentOf i ≠ .main → agentOf i ≠ .host → exec i s = .next t → t.pst = s.pst)

/-- R109 and R179, the degenerate scenario E6 and its limit: the pacer is in DRIVE with MARKER = LC, and then no operation of
HOST and no pacer operation but PDRIVE and RDLC happens, with `n` TICKs among the rest (immediate visibility). If `n` is no
multiple of `V_TOTAL`, the PWAIT after the PBLANK leaves WAIT at once with `SPIN = 0`; if it is one, the wait goes on. -/
def Obligations.OverrunEndsWaitAtOnce : Prop :=
  ∀ (s u : State) (is : List Instr), Inv s → s.cfg.lcVisibility = .immediate → s.pst = .drive → s.marker = s.lc →
    hostFree is = true → (∀ i ∈ is, i ≠ .ppoll ∧ i ≠ .pbegin ∧ i ≠ .pblank ∧ i ≠ .pwait) → execSeq is s = .next u →
    ∃ v w, exec .pblank u = .next v ∧ exec .pwait v = .next w ∧
      (is.count .tick % s.cfg.vTotal ≠ 0 → w.spin = 0 ∧ w.stuck = s.stuck ∧ w.pleft + 1 = s.pleft ∧
        w.pst = if s.pleft = 1 then .idle else .begin) ∧
      (is.count .tick % s.cfg.vTotal = 0 → w.pst = .wait ∧ w.pleft = s.pleft)

/-- R106, R157: the spin bound. With `SPIN_BOUND = n` and LC standing at MARKER (immediate visibility), the first `n` PWAITs
of a wait spin, every one after them sets STUCK and changes nothing else; with `SPIN_BOUND = none` every one spins. -/
def Obligations.SpinBoundDetectsStall : Prop :=
  (∀ (s : State) (n k : Nat), s.cfg.lcVisibility = .immediate → s.pst = .wait → s.lc = s.marker → s.spin = 0 →
    s.cfg.spinBound = some n → k ≤ n → execSeq (opSpin k) s = .next { s with spin := k }) ∧
  (∀ (s : State) (n k : Nat), s.cfg.lcVisibility = .immediate → s.pst = .wait → s.lc = s.marker → s.spin = 0 →
    s.cfg.spinBound = some n → n < k → execSeq (opSpin k) s = .next { s with spin := n, stuck := true }) ∧
  (∀ (s : State) (k : Nat), s.cfg.lcVisibility = .immediate → s.pst = .wait → s.lc = s.marker →
    s.cfg.spinBound = none → execSeq (opSpin k) s = .next { s with spin := s.spin + k })

/-- R69: the pseudo-operation PLINE, at any counts, runs from BEGIN: one `Draw`, and it ends in WAIT with the colours off and
`SPIN = 0`. -/
def Obligations.PlineDrawsAndBlanks : Prop :=
  ∀ (s : State) (nr ng nb : Nat), s.pst = .begin →
    execSeq (opPline nr ng nb) s = .next { s with
      marker := (rdLC s).1, log := s.log ++ [.draw (rdLC s).1], pst := .wait, spin := 0,
      r := false, g := false, b := false, rseq := (rdLC s).2.rseq, freeIdx := (rdLC s).2.freeIdx }

/-- R108, items 2 and 3: in every run from the running start state that meets `NOV` (immediate visibility, no HOST
operation), every `Draw(m)` has `phase(m)` ACTIVE, and `R = G = B = 0` whenever a TICK starts. The reading of `NOV` (a) is the
model's (log 24). -/
def Obligations.DrawsOnlyInActivePhase : Prop :=
  ∀ (s t : State) (is : List Instr), RunningStart s → s.cfg.lcVisibility = .immediate → hostFree is = true →
    execSeq is s = .next t → nov s is = true →
    (∃ es, t.log = s.log ++ es ∧ ∀ m ∈ drawMarkers es, phase s.cfg m = some .active) ∧
    alongRun (fun i u => !(i == .tick && lit u)) s is = true

/-- R108, item 1: a run of whole frames from the running start state that meets `NOV` draws, in each frame, exactly the lines
`V_ACTIVE_START, ..., V_ACTIVE_START + V_ACTIVE_COUNT - 1`, in that order, each once. The reading of `NOV` (a) is the model's
(log 24). -/
def Obligations.EveryFrameDrawsItsLines : Prop :=
  ∀ (s t : State) (is : List Instr) (n : Nat), RunningStart s → s.cfg.lcVisibility = .immediate →
    hostFree is = true → execSeq is s = .next t → nov s is = true → is.count .tick = n * s.cfg.vTotal →
    ∃ es, t.log = s.log ++ es ∧
      drawMarkers es = (List.replicate n (List.range' s.cfg.vActiveStart s.cfg.vActiveCount)).flatten

/-! ### The whole machine -/

/-- R170: the guard table. A false guard is a refusal; a true one, in a state that satisfies the invariants, is a step; and of
MAIN's operations exactly those of one program point are enabled in each state, RDLC always. Outside the invariants PWAIT
also refuses, by name, where LC differs from MARKER and `PLEFT = 0`, a pair that R107 does not list (log 13). -/
def Obligations.GuardTable : Prop :=
  (∀ (i : Instr) (s : State), opGuard i s = false → exec i s = .refused (.notEnabled i)) ∧
  (∀ (i : Instr) (s : State), Inv s → opGuard i s = true → ∃ t, exec i s = .next t) ∧
  (∀ (i : Instr) (s t : State), exec i s = .next t → opGuard i s = true) ∧
  (∀ s : State, s.pst = .wait → (rdLC s).1 ≠ s.marker → s.pleft = 0 → exec .pwait s = .refused .noLinesLeft) ∧
  (∀ (i j : Instr) (s : State), agentOf i = .main → agentOf j = .main → i ≠ .rdlc → j ≠ .rdlc →
    opGuard i s = true → opGuard j s = true →
    i = j ∨ ((i = .pblank ∨ ∃ r g b, i = .pdrive r g b) ∧ (j = .pblank ∨ ∃ r g b, j = .pdrive r g b))) ∧
  (∀ s : State, opGuard .rdlc s = true ∧ ∃ i, agentOf i = .main ∧ i ≠ .rdlc ∧ opGuard i s = true)

/-- R31: the invariants hold of the reset state under every well-formed configuration, and RESET establishes them from any
state that has one. MARKER's value in the reset state (log 6) and the bound on `readWindow` (log 9) are the model's own. -/
def Obligations.InvariantsHoldAtReset : Prop :=
  (∀ c : Cfg, c.wf = true → FullInv (State.resetWith c)) ∧
  (∀ s t : State, s.cfg.wf = true → exec .reset s = .next t → FullInv t)

/-- R31: every step of the machine keeps the invariants I-1 to I-8. -/
def Obligations.StepKeepsInvariants : Prop :=
  ∀ s t : State, Inv s → step s = .next t → Inv t

/-- R24, R45, R10: every step keeps the history's well-formedness in eventual mode and the widths of LC, PLEFT and MARKER,
beside I-1 to I-8. The bound on `readWindow` is the model's own (log 9). -/
def Obligations.StepKeepsHistoryAndWidths : Prop :=
  ∀ s t : State, FullInv s → step s = .next t → FullInv t

/-- R29: access rights. What an operation's agent may not write it does not write, and HOST writes LC 0 only and VSYNC 1 only,
the colours 0 only, HCNT 0 only, HIRQ 0 only; HGEN and ENV only set HIRQ, IRQ only clears it and writes HCNT 0 only; MAIN
only sets STUCK. -/
def Obligations.AccessRights : Prop :=
  (∀ (i : Instr) (s t : State) (x : Item), exec i s = .next t → mayWrite (agentOf i) x = false → copyItem x s t = t) ∧
  (∀ (i : Instr) (s t : State), agentOf i = .host → exec i s = .next t →
    (t.lc = s.lc ∨ t.lc = 0) ∧ (t.vsync = s.vsync ∨ t.vsync = true) ∧ t.hirq = false ∧
    (t.hcnt = s.hcnt ∨ t.hcnt = 0) ∧
    ((t.r = s.r ∧ t.g = s.g ∧ t.b = s.b) ∨ (t.r = false ∧ t.g = false ∧ t.b = false)) ∧
    (t.stuck = s.stuck ∨ (i = .reset ∧ t.stuck = false))) ∧
  (∀ (i : Instr) (s t : State), agentOf i = .hgen ∨ agentOf i = .env → exec i s = .next t →
    t.hirq = s.hirq ∨ t.hirq = true) ∧
  (∀ (s t : State), exec .tick s = .next t → t.hirq = false ∧ t.hcnt = 0) ∧
  (∀ (i : Instr) (s t : State), agentOf i = .main → exec i s = .next t → t.stuck = s.stuck ∨ t.stuck = true)

/-- R29, R88, R111: no hidden reads. An item that an operation's agent may neither read nor write has no influence on the
operation: with any other content of it the operation answers the same, that content carried along. -/
def Obligations.UnreadItemsHaveNoInfluence : Prop :=
  ∀ (i : Instr) (s u : State) (x : Item),
    mayRead (agentOf i) x = false → mayWrite (agentOf i) x = false →
    exec i (copyItem x u s) = mapNext (copyItem x u) (exec i s)

/-- R88, R111, R147: there is no feedback from the pacer. Taking every operation of MAIN out of a run leaves a run, and the
vertical signal, the generator and the interrupt end in the same state. -/
def Obligations.SignalIndependentOfPacer : Prop :=
  ∀ (s t : State) (is : List Instr), execSeq is s = .next t →
    ∃ u, execSeq (is.filter fun i => agentOf i != .main) s = .next u ∧
      u.lc = t.lc ∧ u.vsync = t.vsync ∧ u.hrun = t.hrun ∧ u.ien = t.ien ∧ u.hirq = t.hirq ∧ u.hcnt = t.hcnt ∧
      u.cfg = t.cfg ∧ u.log.filter (fun e => !mayLog .pbegin e) = t.log.filter (fun e => !mayLog .pbegin e)

/-- R147: a pending TICK is never held back by MAIN: what MAIN does leaves it enabled, with the line it will serve. -/
def Obligations.PendingTickNotHeldBack : Prop :=
  ∀ (s t : State) (is : List Instr), s.ien = true → s.hirq = true → s.lc < s.cfg.vTotal →
    (∀ i ∈ is, agentOf i = .main) → execSeq is s = .next t →
    t.lc = s.lc ∧ ∃ u, exec .tick t = .next u

/-- R27, R157: STUCK is set by PWAIT at the bound and by nothing else, never without a bound, cleared by RESET only, and stops
nothing: with it set or not, every other operation does the same. -/
def Obligations.StuckRecordsAndStopsNothing : Prop :=
  (∀ (i : Instr) (s t : State), exec i s = .next t → s.stuck = false → t.stuck = true →
    i = .pwait ∧ s.pst = .wait ∧ (rdLC s).1 = s.marker ∧ ∃ n, s.cfg.spinBound = some n ∧ n ≤ s.spin) ∧
  (∀ (i : Instr) (s t : State), exec i s = .next t → s.stuck = true → i ≠ .reset → t.stuck = true) ∧
  (∀ (i : Instr) (s : State), i ≠ .reset →
    exec i { s with stuck := true } = mapNext (fun t => { t with stuck := true }) (exec i s))

/-- R22, U2: MARKER is not read before PBEGIN has written it. A run from a state with the pacer at IDLE, begun with any other
value in MARKER, is a run with the same states but for MARKER, and MARKER too is the same wherever the pacer is in DRIVE or
WAIT. So nothing rests on the value reset leaves there (log 6, log 7). -/
def Obligations.MarkerUnreadBeforeCapture : Prop :=
  ∀ (s t : State) (is : List Instr) (m : Nat), s.pst = .idle → execSeq is s = .next t →
    ∃ u, execSeq is { s with marker := m } = .next u ∧ u = { t with marker := u.marker } ∧
      (t.pst = .drive ∨ t.pst = .wait → u = t)

/-- R9: the log. Each operation but RESET only appends to it, and only the events of its row of R9's table; RESET empties it;
and no operation reads it. -/
def Obligations.LogIsWrittenNeverRead : Prop :=
  (∀ (i : Instr) (s t : State), i ≠ .reset → exec i s = .next t →
    ∃ es, t.log = s.log ++ es ∧ ∀ e ∈ es, mayLog i e = true) ∧
  (∀ s t : State, exec .reset s = .next t → t.log = []) ∧
  (∀ (i : Instr) (s : State) (es : List Event), i ≠ .reset →
    exec i { s with log := es ++ s.log } = mapNext (fun t => { t with log := es ++ t.log }) (exec i s))

/-- R51, R25: no step and no run changes the configuration. -/
def Obligations.ConfigurationNeverChanges : Prop :=
  (∀ s t : State, step s = .next t → t.cfg = s.cfg) ∧
  (∀ (s t : State) (is : List Instr), execSeq is s = .next t → t.cfg = s.cfg)

/-- R129: erasing HCNT from a tick-level run, with every HCLK that wraps an HPULSE and every other HCLK deleted, gives a
line-level run that ends in the same state but for HCNT. -/
def Obligations.TickLevelRefinesLineLevel : Prop :=
  ∀ (s t : State) (is : List Instr), execSeq is s = .next t →
    Instr.hclk ∉ lineImage s is ∧
    ∃ u, execSeq (lineImage s is) (eraseCounter s) = .next u ∧ eraseCounter u = eraseCounter t

/-- R129, the converse: every line-level run is the image of a tick-level run. -/
def Obligations.LineLevelIsImageOfTickLevel : Prop :=
  ∀ (s t : State) (is : List Instr), Inv s → Instr.hclk ∉ is → execSeq is s = .next t →
    ∃ (ks : List Instr) (u : State), Instr.hpulse ∉ ks ∧ execSeq ks s = .next u ∧ lineImage s ks = is ∧
      eraseCounter u = eraseCounter t
end

