-- ==== Sys2Proof/Laws/State.lean ====
section
/-! SUPPORT. One lemma per field per named update of the state, true by rfl: what the update writes, and that it leaves the
rest. -/

namespace Sys2Proof.Machine

@[simp] theorem State.logged_cfg (es : List Event) (s : State) : (State.logged es s).cfg = s.cfg := rfl
@[simp] theorem State.logged_lc (es : List Event) (s : State) : (State.logged es s).lc = s.lc := rfl
@[simp] theorem State.logged_vsync (es : List Event) (s : State) : (State.logged es s).vsync = s.vsync := rfl
@[simp] theorem State.logged_r (es : List Event) (s : State) : (State.logged es s).r = s.r := rfl
@[simp] theorem State.logged_g (es : List Event) (s : State) : (State.logged es s).g = s.g := rfl
@[simp] theorem State.logged_b (es : List Event) (s : State) : (State.logged es s).b = s.b := rfl
@[simp] theorem State.logged_hrun (es : List Event) (s : State) : (State.logged es s).hrun = s.hrun := rfl
@[simp] theorem State.logged_ien (es : List Event) (s : State) : (State.logged es s).ien = s.ien := rfl
@[simp] theorem State.logged_hirq (es : List Event) (s : State) : (State.logged es s).hirq = s.hirq := rfl
@[simp] theorem State.logged_hcnt (es : List Event) (s : State) : (State.logged es s).hcnt = s.hcnt := rfl
@[simp] theorem State.logged_pst (es : List Event) (s : State) : (State.logged es s).pst = s.pst := rfl
@[simp] theorem State.logged_pleft (es : List Event) (s : State) : (State.logged es s).pleft = s.pleft := rfl
@[simp] theorem State.logged_marker (es : List Event) (s : State) : (State.logged es s).marker = s.marker := rfl
@[simp] theorem State.logged_spin (es : List Event) (s : State) : (State.logged es s).spin = s.spin := rfl
@[simp] theorem State.logged_stuck (es : List Event) (s : State) : (State.logged es s).stuck = s.stuck := rfl
@[simp] theorem State.logged_wseq (es : List Event) (s : State) : (State.logged es s).wseq = s.wseq := rfl
@[simp] theorem State.logged_rseq (es : List Event) (s : State) : (State.logged es s).rseq = s.rseq := rfl
@[simp] theorem State.logged_hist (es : List Event) (s : State) : (State.logged es s).hist = s.hist := rfl
@[simp] theorem State.logged_log (es : List Event) (s : State) : (State.logged es s).log = s.log ++ es := rfl
@[simp] theorem State.logged_sched (es : List Event) (s : State) : (State.logged es s).sched = s.sched := rfl
@[simp] theorem State.logged_results (es : List Event) (s : State) : (State.logged es s).results = s.results := rfl
@[simp] theorem State.logged_freeIdx (es : List Event) (s : State) : (State.logged es s).freeIdx = s.freeIdx := rfl
@[simp] theorem State.logged_readWindow (es : List Event) (s : State) : (State.logged es s).readWindow = s.readWindow := rfl

@[simp] theorem setColour_cfg (x y z : Bool) (s : State) : (setColour x y z s).cfg = s.cfg := rfl
@[simp] theorem setColour_lc (x y z : Bool) (s : State) : (setColour x y z s).lc = s.lc := rfl
@[simp] theorem setColour_vsync (x y z : Bool) (s : State) : (setColour x y z s).vsync = s.vsync := rfl
@[simp] theorem setColour_r (x y z : Bool) (s : State) : (setColour x y z s).r = x := rfl
@[simp] theorem setColour_g (x y z : Bool) (s : State) : (setColour x y z s).g = y := rfl
@[simp] theorem setColour_b (x y z : Bool) (s : State) : (setColour x y z s).b = z := rfl
@[simp] theorem setColour_hrun (x y z : Bool) (s : State) : (setColour x y z s).hrun = s.hrun := rfl
@[simp] theorem setColour_ien (x y z : Bool) (s : State) : (setColour x y z s).ien = s.ien := rfl
@[simp] theorem setColour_hirq (x y z : Bool) (s : State) : (setColour x y z s).hirq = s.hirq := rfl
@[simp] theorem setColour_hcnt (x y z : Bool) (s : State) : (setColour x y z s).hcnt = s.hcnt := rfl
@[simp] theorem setColour_pst (x y z : Bool) (s : State) : (setColour x y z s).pst = s.pst := rfl
@[simp] theorem setColour_pleft (x y z : Bool) (s : State) : (setColour x y z s).pleft = s.pleft := rfl
@[simp] theorem setColour_marker (x y z : Bool) (s : State) : (setColour x y z s).marker = s.marker := rfl
@[simp] theorem setColour_spin (x y z : Bool) (s : State) : (setColour x y z s).spin = s.spin := rfl
@[simp] theorem setColour_stuck (x y z : Bool) (s : State) : (setColour x y z s).stuck = s.stuck := rfl
@[simp] theorem setColour_wseq (x y z : Bool) (s : State) : (setColour x y z s).wseq = s.wseq := rfl
@[simp] theorem setColour_rseq (x y z : Bool) (s : State) : (setColour x y z s).rseq = s.rseq := rfl
@[simp] theorem setColour_hist (x y z : Bool) (s : State) : (setColour x y z s).hist = s.hist := rfl
@[simp] theorem setColour_log (x y z : Bool) (s : State) : (setColour x y z s).log = s.log := rfl
@[simp] theorem setColour_sched (x y z : Bool) (s : State) : (setColour x y z s).sched = s.sched := rfl
@[simp] theorem setColour_results (x y z : Bool) (s : State) : (setColour x y z s).results = s.results := rfl
@[simp] theorem setColour_freeIdx (x y z : Bool) (s : State) : (setColour x y z s).freeIdx = s.freeIdx := rfl
@[simp] theorem setColour_readWindow (x y z : Bool) (s : State) : (setColour x y z s).readWindow = s.readWindow := rfl

@[simp] theorem rebaseline_cfg (s : State) : (rebaseline s).cfg = s.cfg := rfl
@[simp] theorem rebaseline_lc (s : State) : (rebaseline s).lc = s.lc := rfl
@[simp] theorem rebaseline_vsync (s : State) : (rebaseline s).vsync = s.vsync := rfl
@[simp] theorem rebaseline_r (s : State) : (rebaseline s).r = s.r := rfl
@[simp] theorem rebaseline_g (s : State) : (rebaseline s).g = s.g := rfl
@[simp] theorem rebaseline_b (s : State) : (rebaseline s).b = s.b := rfl
@[simp] theorem rebaseline_hrun (s : State) : (rebaseline s).hrun = s.hrun := rfl
@[simp] theorem rebaseline_ien (s : State) : (rebaseline s).ien = s.ien := rfl
@[simp] theorem rebaseline_hirq (s : State) : (rebaseline s).hirq = s.hirq := rfl
@[simp] theorem rebaseline_hcnt (s : State) : (rebaseline s).hcnt = 0 := rfl
@[simp] theorem rebaseline_pst (s : State) : (rebaseline s).pst = s.pst := rfl
@[simp] theorem rebaseline_pleft (s : State) : (rebaseline s).pleft = s.pleft := rfl
@[simp] theorem rebaseline_marker (s : State) : (rebaseline s).marker = s.marker := rfl
@[simp] theorem rebaseline_spin (s : State) : (rebaseline s).spin = s.spin := rfl
@[simp] theorem rebaseline_stuck (s : State) : (rebaseline s).stuck = s.stuck := rfl
@[simp] theorem rebaseline_wseq (s : State) : (rebaseline s).wseq = s.wseq := rfl
@[simp] theorem rebaseline_rseq (s : State) : (rebaseline s).rseq = s.rseq := rfl
@[simp] theorem rebaseline_hist (s : State) : (rebaseline s).hist = s.hist := rfl
@[simp] theorem rebaseline_log (s : State) : (rebaseline s).log = s.log := rfl
@[simp] theorem rebaseline_sched (s : State) : (rebaseline s).sched = s.sched := rfl
@[simp] theorem rebaseline_results (s : State) : (rebaseline s).results = s.results := rfl
@[simp] theorem rebaseline_freeIdx (s : State) : (rebaseline s).freeIdx = s.freeIdx := rfl
@[simp] theorem rebaseline_readWindow (s : State) : (rebaseline s).readWindow = s.readWindow := rfl

@[simp] theorem acknowledge_cfg (s : State) : (acknowledge s).cfg = s.cfg := rfl
@[simp] theorem acknowledge_lc (s : State) : (acknowledge s).lc = s.lc := rfl
@[simp] theorem acknowledge_vsync (s : State) : (acknowledge s).vsync = s.vsync := rfl
@[simp] theorem acknowledge_r (s : State) : (acknowledge s).r = s.r := rfl
@[simp] theorem acknowledge_g (s : State) : (acknowledge s).g = s.g := rfl
@[simp] theorem acknowledge_b (s : State) : (acknowledge s).b = s.b := rfl
@[simp] theorem acknowledge_hrun (s : State) : (acknowledge s).hrun = s.hrun := rfl
@[simp] theorem acknowledge_ien (s : State) : (acknowledge s).ien = s.ien := rfl
@[simp] theorem acknowledge_hirq (s : State) : (acknowledge s).hirq = false := rfl
@[simp] theorem acknowledge_hcnt (s : State) : (acknowledge s).hcnt = s.hcnt := rfl
@[simp] theorem acknowledge_pst (s : State) : (acknowledge s).pst = s.pst := rfl
@[simp] theorem acknowledge_pleft (s : State) : (acknowledge s).pleft = s.pleft := rfl
@[simp] theorem acknowledge_marker (s : State) : (acknowledge s).marker = s.marker := rfl
@[simp] theorem acknowledge_spin (s : State) : (acknowledge s).spin = s.spin := rfl
@[simp] theorem acknowledge_stuck (s : State) : (acknowledge s).stuck = s.stuck := rfl
@[simp] theorem acknowledge_wseq (s : State) : (acknowledge s).wseq = s.wseq := rfl
@[simp] theorem acknowledge_rseq (s : State) : (acknowledge s).rseq = s.rseq := rfl
@[simp] theorem acknowledge_hist (s : State) : (acknowledge s).hist = s.hist := rfl
@[simp] theorem acknowledge_log (s : State) : (acknowledge s).log = s.log := rfl
@[simp] theorem acknowledge_sched (s : State) : (acknowledge s).sched = s.sched := rfl
@[simp] theorem acknowledge_results (s : State) : (acknowledge s).results = s.results := rfl
@[simp] theorem acknowledge_freeIdx (s : State) : (acknowledge s).freeIdx = s.freeIdx := rfl
@[simp] theorem acknowledge_readWindow (s : State) : (acknowledge s).readWindow = s.readWindow := rfl

@[simp] theorem clearVsync_cfg (s : State) : (clearVsync s).cfg = s.cfg := rfl
@[simp] theorem clearVsync_lc (s : State) : (clearVsync s).lc = s.lc := rfl
@[simp] theorem clearVsync_vsync (s : State) : (clearVsync s).vsync = false := rfl
@[simp] theorem clearVsync_r (s : State) : (clearVsync s).r = s.r := rfl
@[simp] theorem clearVsync_g (s : State) : (clearVsync s).g = s.g := rfl
@[simp] theorem clearVsync_b (s : State) : (clearVsync s).b = s.b := rfl
@[simp] theorem clearVsync_hrun (s : State) : (clearVsync s).hrun = s.hrun := rfl
@[simp] theorem clearVsync_ien (s : State) : (clearVsync s).ien = s.ien := rfl
@[simp] theorem clearVsync_hirq (s : State) : (clearVsync s).hirq = s.hirq := rfl
@[simp] theorem clearVsync_hcnt (s : State) : (clearVsync s).hcnt = s.hcnt := rfl
@[simp] theorem clearVsync_pst (s : State) : (clearVsync s).pst = s.pst := rfl
@[simp] theorem clearVsync_pleft (s : State) : (clearVsync s).pleft = s.pleft := rfl
@[simp] theorem clearVsync_marker (s : State) : (clearVsync s).marker = s.marker := rfl
@[simp] theorem clearVsync_spin (s : State) : (clearVsync s).spin = s.spin := rfl
@[simp] theorem clearVsync_stuck (s : State) : (clearVsync s).stuck = s.stuck := rfl
@[simp] theorem clearVsync_wseq (s : State) : (clearVsync s).wseq = s.wseq := rfl
@[simp] theorem clearVsync_rseq (s : State) : (clearVsync s).rseq = s.rseq := rfl
@[simp] theorem clearVsync_hist (s : State) : (clearVsync s).hist = s.hist := rfl
@[simp] theorem clearVsync_log (s : State) : (clearVsync s).log = s.log ++ (if s.vsync then [.vsFall] else []) := rfl
@[simp] theorem clearVsync_sched (s : State) : (clearVsync s).sched = s.sched := rfl
@[simp] theorem clearVsync_results (s : State) : (clearVsync s).results = s.results := rfl
@[simp] theorem clearVsync_freeIdx (s : State) : (clearVsync s).freeIdx = s.freeIdx := rfl
@[simp] theorem clearVsync_readWindow (s : State) : (clearVsync s).readWindow = s.readWindow := rfl

@[simp] theorem setVsync_cfg (s : State) : (setVsync s).cfg = s.cfg := rfl
@[simp] theorem setVsync_lc (s : State) : (setVsync s).lc = s.lc := rfl
@[simp] theorem setVsync_vsync (s : State) : (setVsync s).vsync = true := rfl
@[simp] theorem setVsync_r (s : State) : (setVsync s).r = s.r := rfl
@[simp] theorem setVsync_g (s : State) : (setVsync s).g = s.g := rfl
@[simp] theorem setVsync_b (s : State) : (setVsync s).b = s.b := rfl
@[simp] theorem setVsync_hrun (s : State) : (setVsync s).hrun = s.hrun := rfl
@[simp] theorem setVsync_ien (s : State) : (setVsync s).ien = s.ien := rfl
@[simp] theorem setVsync_hirq (s : State) : (setVsync s).hirq = s.hirq := rfl
@[simp] theorem setVsync_hcnt (s : State) : (setVsync s).hcnt = s.hcnt := rfl
@[simp] theorem setVsync_pst (s : State) : (setVsync s).pst = s.pst := rfl
@[simp] theorem setVsync_pleft (s : State) : (setVsync s).pleft = s.pleft := rfl
@[simp] theorem setVsync_marker (s : State) : (setVsync s).marker = s.marker := rfl
@[simp] theorem setVsync_spin (s : State) : (setVsync s).spin = s.spin := rfl
@[simp] theorem setVsync_stuck (s : State) : (setVsync s).stuck = s.stuck := rfl
@[simp] theorem setVsync_wseq (s : State) : (setVsync s).wseq = s.wseq := rfl
@[simp] theorem setVsync_rseq (s : State) : (setVsync s).rseq = s.rseq := rfl
@[simp] theorem setVsync_hist (s : State) : (setVsync s).hist = s.hist := rfl
@[simp] theorem setVsync_log (s : State) : (setVsync s).log = s.log ++ (if s.vsync then [] else [.vsRise]) := rfl
@[simp] theorem setVsync_sched (s : State) : (setVsync s).sched = s.sched := rfl
@[simp] theorem setVsync_results (s : State) : (setVsync s).results = s.results := rfl
@[simp] theorem setVsync_freeIdx (s : State) : (setVsync s).freeIdx = s.freeIdx := rfl
@[simp] theorem setVsync_readWindow (s : State) : (setVsync s).readWindow = s.readWindow := rfl

@[simp] theorem pulseBoundary_cfg (s : State) : (pulseBoundary s).cfg = s.cfg := rfl
@[simp] theorem pulseBoundary_lc (s : State) : (pulseBoundary s).lc = s.lc := rfl
@[simp] theorem pulseBoundary_vsync (s : State) : (pulseBoundary s).vsync = s.vsync := rfl
@[simp] theorem pulseBoundary_r (s : State) : (pulseBoundary s).r = s.r := rfl
@[simp] theorem pulseBoundary_g (s : State) : (pulseBoundary s).g = s.g := rfl
@[simp] theorem pulseBoundary_b (s : State) : (pulseBoundary s).b = s.b := rfl
@[simp] theorem pulseBoundary_hrun (s : State) : (pulseBoundary s).hrun = s.hrun := rfl
@[simp] theorem pulseBoundary_ien (s : State) : (pulseBoundary s).ien = s.ien := rfl
@[simp] theorem pulseBoundary_hirq (s : State) : (pulseBoundary s).hirq = true := rfl
@[simp] theorem pulseBoundary_hcnt (s : State) : (pulseBoundary s).hcnt = s.hcnt := rfl
@[simp] theorem pulseBoundary_pst (s : State) : (pulseBoundary s).pst = s.pst := rfl
@[simp] theorem pulseBoundary_pleft (s : State) : (pulseBoundary s).pleft = s.pleft := rfl
@[simp] theorem pulseBoundary_marker (s : State) : (pulseBoundary s).marker = s.marker := rfl
@[simp] theorem pulseBoundary_spin (s : State) : (pulseBoundary s).spin = s.spin := rfl
@[simp] theorem pulseBoundary_stuck (s : State) : (pulseBoundary s).stuck = s.stuck := rfl
@[simp] theorem pulseBoundary_wseq (s : State) : (pulseBoundary s).wseq = s.wseq := rfl
@[simp] theorem pulseBoundary_rseq (s : State) : (pulseBoundary s).rseq = s.rseq := rfl
@[simp] theorem pulseBoundary_hist (s : State) : (pulseBoundary s).hist = s.hist := rfl
@[simp] theorem pulseBoundary_log (s : State) : (pulseBoundary s).log = s.log ++ (if s.hirq then [.missed, .pulse] else [.pulse]) := rfl
@[simp] theorem pulseBoundary_sched (s : State) : (pulseBoundary s).sched = s.sched := rfl
@[simp] theorem pulseBoundary_results (s : State) : (pulseBoundary s).results = s.results := rfl
@[simp] theorem pulseBoundary_freeIdx (s : State) : (pulseBoundary s).freeIdx = s.freeIdx := rfl
@[simp] theorem pulseBoundary_readWindow (s : State) : (pulseBoundary s).readWindow = s.readWindow := rfl

@[simp] theorem raiseSpurious_cfg (s : State) : (raiseSpurious s).cfg = s.cfg := rfl
@[simp] theorem raiseSpurious_lc (s : State) : (raiseSpurious s).lc = s.lc := rfl
@[simp] theorem raiseSpurious_vsync (s : State) : (raiseSpurious s).vsync = s.vsync := rfl
@[simp] theorem raiseSpurious_r (s : State) : (raiseSpurious s).r = s.r := rfl
@[simp] theorem raiseSpurious_g (s : State) : (raiseSpurious s).g = s.g := rfl
@[simp] theorem raiseSpurious_b (s : State) : (raiseSpurious s).b = s.b := rfl
@[simp] theorem raiseSpurious_hrun (s : State) : (raiseSpurious s).hrun = s.hrun := rfl
@[simp] theorem raiseSpurious_ien (s : State) : (raiseSpurious s).ien = s.ien := rfl
@[simp] theorem raiseSpurious_hirq (s : State) : (raiseSpurious s).hirq = true := rfl
@[simp] theorem raiseSpurious_hcnt (s : State) : (raiseSpurious s).hcnt = s.hcnt := rfl
@[simp] theorem raiseSpurious_pst (s : State) : (raiseSpurious s).pst = s.pst := rfl
@[simp] theorem raiseSpurious_pleft (s : State) : (raiseSpurious s).pleft = s.pleft := rfl
@[simp] theorem raiseSpurious_marker (s : State) : (raiseSpurious s).marker = s.marker := rfl
@[simp] theorem raiseSpurious_spin (s : State) : (raiseSpurious s).spin = s.spin := rfl
@[simp] theorem raiseSpurious_stuck (s : State) : (raiseSpurious s).stuck = s.stuck := rfl
@[simp] theorem raiseSpurious_wseq (s : State) : (raiseSpurious s).wseq = s.wseq := rfl
@[simp] theorem raiseSpurious_rseq (s : State) : (raiseSpurious s).rseq = s.rseq := rfl
@[simp] theorem raiseSpurious_hist (s : State) : (raiseSpurious s).hist = s.hist := rfl
@[simp] theorem raiseSpurious_log (s : State) : (raiseSpurious s).log = s.log ++ [.spurious] := rfl
@[simp] theorem raiseSpurious_sched (s : State) : (raiseSpurious s).sched = s.sched := rfl
@[simp] theorem raiseSpurious_results (s : State) : (raiseSpurious s).results = s.results := rfl
@[simp] theorem raiseSpurious_freeIdx (s : State) : (raiseSpurious s).freeIdx = s.freeIdx := rfl
@[simp] theorem raiseSpurious_readWindow (s : State) : (raiseSpurious s).readWindow = s.readWindow := rfl

@[simp] theorem finishLine_cfg (s : State) : (finishLine s).cfg = s.cfg := rfl
@[simp] theorem finishLine_lc (s : State) : (finishLine s).lc = s.lc := rfl
@[simp] theorem finishLine_vsync (s : State) : (finishLine s).vsync = s.vsync := rfl
@[simp] theorem finishLine_r (s : State) : (finishLine s).r = s.r := rfl
@[simp] theorem finishLine_g (s : State) : (finishLine s).g = s.g := rfl
@[simp] theorem finishLine_b (s : State) : (finishLine s).b = s.b := rfl
@[simp] theorem finishLine_hrun (s : State) : (finishLine s).hrun = s.hrun := rfl
@[simp] theorem finishLine_ien (s : State) : (finishLine s).ien = s.ien := rfl
@[simp] theorem finishLine_hirq (s : State) : (finishLine s).hirq = s.hirq := rfl
@[simp] theorem finishLine_hcnt (s : State) : (finishLine s).hcnt = s.hcnt := rfl
@[simp] theorem finishLine_pst (s : State) : (finishLine s).pst = if s.pleft - 1 = 0 then .idle else .begin := rfl
@[simp] theorem finishLine_pleft (s : State) : (finishLine s).pleft = s.pleft - 1 := rfl
@[simp] theorem finishLine_marker (s : State) : (finishLine s).marker = s.marker := rfl
@[simp] theorem finishLine_spin (s : State) : (finishLine s).spin = s.spin := rfl
@[simp] theorem finishLine_stuck (s : State) : (finishLine s).stuck = s.stuck := rfl
@[simp] theorem finishLine_wseq (s : State) : (finishLine s).wseq = s.wseq := rfl
@[simp] theorem finishLine_rseq (s : State) : (finishLine s).rseq = s.rseq := rfl
@[simp] theorem finishLine_hist (s : State) : (finishLine s).hist = s.hist := rfl
@[simp] theorem finishLine_log (s : State) : (finishLine s).log = s.log := rfl
@[simp] theorem finishLine_sched (s : State) : (finishLine s).sched = s.sched := rfl
@[simp] theorem finishLine_results (s : State) : (finishLine s).results = s.results := rfl
@[simp] theorem finishLine_freeIdx (s : State) : (finishLine s).freeIdx = s.freeIdx := rfl
@[simp] theorem finishLine_readWindow (s : State) : (finishLine s).readWindow = s.readWindow := rfl

@[simp] theorem idleOutputs_cfg (s : State) : (idleOutputs s).cfg = s.cfg := rfl
@[simp] theorem idleOutputs_lc (s : State) : (idleOutputs s).lc = 0 := rfl
@[simp] theorem idleOutputs_vsync (s : State) : (idleOutputs s).vsync = true := rfl
@[simp] theorem idleOutputs_r (s : State) : (idleOutputs s).r = false := rfl
@[simp] theorem idleOutputs_g (s : State) : (idleOutputs s).g = false := rfl
@[simp] theorem idleOutputs_b (s : State) : (idleOutputs s).b = false := rfl
@[simp] theorem idleOutputs_hrun (s : State) : (idleOutputs s).hrun = s.hrun := rfl
@[simp] theorem idleOutputs_ien (s : State) : (idleOutputs s).ien = s.ien := rfl
@[simp] theorem idleOutputs_hirq (s : State) : (idleOutputs s).hirq = s.hirq := rfl
@[simp] theorem idleOutputs_hcnt (s : State) : (idleOutputs s).hcnt = s.hcnt := rfl
@[simp] theorem idleOutputs_pst (s : State) : (idleOutputs s).pst = s.pst := rfl
@[simp] theorem idleOutputs_pleft (s : State) : (idleOutputs s).pleft = s.pleft := rfl
@[simp] theorem idleOutputs_marker (s : State) : (idleOutputs s).marker = s.marker := rfl
@[simp] theorem idleOutputs_spin (s : State) : (idleOutputs s).spin = s.spin := rfl
@[simp] theorem idleOutputs_stuck (s : State) : (idleOutputs s).stuck = s.stuck := rfl
@[simp] theorem idleOutputs_wseq (s : State) : (idleOutputs s).wseq = s.wseq := rfl
@[simp] theorem idleOutputs_rseq (s : State) : (idleOutputs s).rseq = s.rseq := rfl
@[simp] theorem idleOutputs_hist (s : State) : (idleOutputs s).hist = s.hist := rfl
@[simp] theorem idleOutputs_log (s : State) : (idleOutputs s).log = s.log := rfl
@[simp] theorem idleOutputs_sched (s : State) : (idleOutputs s).sched = s.sched := rfl
@[simp] theorem idleOutputs_results (s : State) : (idleOutputs s).results = s.results := rfl
@[simp] theorem idleOutputs_freeIdx (s : State) : (idleOutputs s).freeIdx = s.freeIdx := rfl
@[simp] theorem idleOutputs_readWindow (s : State) : (idleOutputs s).readWindow = s.readWindow := rfl

@[simp] theorem idlePacer_cfg (s : State) : (idlePacer s).cfg = s.cfg := rfl
@[simp] theorem idlePacer_lc (s : State) : (idlePacer s).lc = s.lc := rfl
@[simp] theorem idlePacer_vsync (s : State) : (idlePacer s).vsync = s.vsync := rfl
@[simp] theorem idlePacer_r (s : State) : (idlePacer s).r = s.r := rfl
@[simp] theorem idlePacer_g (s : State) : (idlePacer s).g = s.g := rfl
@[simp] theorem idlePacer_b (s : State) : (idlePacer s).b = s.b := rfl
@[simp] theorem idlePacer_hrun (s : State) : (idlePacer s).hrun = s.hrun := rfl
@[simp] theorem idlePacer_ien (s : State) : (idlePacer s).ien = s.ien := rfl
@[simp] theorem idlePacer_hirq (s : State) : (idlePacer s).hirq = s.hirq := rfl
@[simp] theorem idlePacer_hcnt (s : State) : (idlePacer s).hcnt = s.hcnt := rfl
@[simp] theorem idlePacer_pst (s : State) : (idlePacer s).pst = .idle := rfl
@[simp] theorem idlePacer_pleft (s : State) : (idlePacer s).pleft = 0 := rfl
@[simp] theorem idlePacer_marker (s : State) : (idlePacer s).marker = s.marker := rfl
@[simp] theorem idlePacer_spin (s : State) : (idlePacer s).spin = 0 := rfl
@[simp] theorem idlePacer_stuck (s : State) : (idlePacer s).stuck = s.stuck := rfl
@[simp] theorem idlePacer_wseq (s : State) : (idlePacer s).wseq = s.wseq := rfl
@[simp] theorem idlePacer_rseq (s : State) : (idlePacer s).rseq = s.rseq := rfl
@[simp] theorem idlePacer_hist (s : State) : (idlePacer s).hist = s.hist := rfl
@[simp] theorem idlePacer_log (s : State) : (idlePacer s).log = s.log := rfl
@[simp] theorem idlePacer_sched (s : State) : (idlePacer s).sched = s.sched := rfl
@[simp] theorem idlePacer_results (s : State) : (idlePacer s).results = s.results := rfl
@[simp] theorem idlePacer_freeIdx (s : State) : (idlePacer s).freeIdx = s.freeIdx := rfl
@[simp] theorem idlePacer_readWindow (s : State) : (idlePacer s).readWindow = s.readWindow := rfl

@[simp] theorem idleGenerator_cfg (s : State) : (idleGenerator s).cfg = s.cfg := rfl
@[simp] theorem idleGenerator_lc (s : State) : (idleGenerator s).lc = s.lc := rfl
@[simp] theorem idleGenerator_vsync (s : State) : (idleGenerator s).vsync = s.vsync := rfl
@[simp] theorem idleGenerator_r (s : State) : (idleGenerator s).r = s.r := rfl
@[simp] theorem idleGenerator_g (s : State) : (idleGenerator s).g = s.g := rfl
@[simp] theorem idleGenerator_b (s : State) : (idleGenerator s).b = s.b := rfl
@[simp] theorem idleGenerator_hrun (s : State) : (idleGenerator s).hrun = s.hrun := rfl
@[simp] theorem idleGenerator_ien (s : State) : (idleGenerator s).ien = s.ien := rfl
@[simp] theorem idleGenerator_hirq (s : State) : (idleGenerator s).hirq = false := rfl
@[simp] theorem idleGenerator_hcnt (s : State) : (idleGenerator s).hcnt = 0 := rfl
@[simp] theorem idleGenerator_pst (s : State) : (idleGenerator s).pst = s.pst := rfl
@[simp] theorem idleGenerator_pleft (s : State) : (idleGenerator s).pleft = s.pleft := rfl
@[simp] theorem idleGenerator_marker (s : State) : (idleGenerator s).marker = s.marker := rfl
@[simp] theorem idleGenerator_spin (s : State) : (idleGenerator s).spin = s.spin := rfl
@[simp] theorem idleGenerator_stuck (s : State) : (idleGenerator s).stuck = s.stuck := rfl
@[simp] theorem idleGenerator_wseq (s : State) : (idleGenerator s).wseq = s.wseq := rfl
@[simp] theorem idleGenerator_rseq (s : State) : (idleGenerator s).rseq = s.rseq := rfl
@[simp] theorem idleGenerator_hist (s : State) : (idleGenerator s).hist = s.hist := rfl
@[simp] theorem idleGenerator_log (s : State) : (idleGenerator s).log = s.log := rfl
@[simp] theorem idleGenerator_sched (s : State) : (idleGenerator s).sched = s.sched := rfl
@[simp] theorem idleGenerator_results (s : State) : (idleGenerator s).results = s.results := rfl
@[simp] theorem idleGenerator_freeIdx (s : State) : (idleGenerator s).freeIdx = s.freeIdx := rfl
@[simp] theorem idleGenerator_readWindow (s : State) : (idleGenerator s).readWindow = s.readWindow := rfl

@[simp] theorem setRunning_cfg (on : Bool) (s : State) : (setRunning on s).cfg = s.cfg := rfl
@[simp] theorem setRunning_lc (on : Bool) (s : State) : (setRunning on s).lc = s.lc := rfl
@[simp] theorem setRunning_vsync (on : Bool) (s : State) : (setRunning on s).vsync = s.vsync := rfl
@[simp] theorem setRunning_r (on : Bool) (s : State) : (setRunning on s).r = s.r := rfl
@[simp] theorem setRunning_g (on : Bool) (s : State) : (setRunning on s).g = s.g := rfl
@[simp] theorem setRunning_b (on : Bool) (s : State) : (setRunning on s).b = s.b := rfl
@[simp] theorem setRunning_hrun (on : Bool) (s : State) : (setRunning on s).hrun = on := rfl
@[simp] theorem setRunning_ien (on : Bool) (s : State) : (setRunning on s).ien = on := rfl
@[simp] theorem setRunning_hirq (on : Bool) (s : State) : (setRunning on s).hirq = s.hirq := rfl
@[simp] theorem setRunning_hcnt (on : Bool) (s : State) : (setRunning on s).hcnt = s.hcnt := rfl
@[simp] theorem setRunning_pst (on : Bool) (s : State) : (setRunning on s).pst = s.pst := rfl
@[simp] theorem setRunning_pleft (on : Bool) (s : State) : (setRunning on s).pleft = s.pleft := rfl
@[simp] theorem setRunning_marker (on : Bool) (s : State) : (setRunning on s).marker = s.marker := rfl
@[simp] theorem setRunning_spin (on : Bool) (s : State) : (setRunning on s).spin = s.spin := rfl
@[simp] theorem setRunning_stuck (on : Bool) (s : State) : (setRunning on s).stuck = s.stuck := rfl
@[simp] theorem setRunning_wseq (on : Bool) (s : State) : (setRunning on s).wseq = s.wseq := rfl
@[simp] theorem setRunning_rseq (on : Bool) (s : State) : (setRunning on s).rseq = s.rseq := rfl
@[simp] theorem setRunning_hist (on : Bool) (s : State) : (setRunning on s).hist = s.hist := rfl
@[simp] theorem setRunning_log (on : Bool) (s : State) : (setRunning on s).log = s.log := rfl
@[simp] theorem setRunning_sched (on : Bool) (s : State) : (setRunning on s).sched = s.sched := rfl
@[simp] theorem setRunning_results (on : Bool) (s : State) : (setRunning on s).results = s.results := rfl
@[simp] theorem setRunning_freeIdx (on : Bool) (s : State) : (setRunning on s).freeIdx = s.freeIdx := rfl
@[simp] theorem setRunning_readWindow (on : Bool) (s : State) : (setRunning on s).readWindow = s.readWindow := rfl

@[simp] theorem freeMarker_cfg (s : State) : (freeMarker s).cfg = s.cfg := rfl
@[simp] theorem freeMarker_lc (s : State) : (freeMarker s).lc = s.lc := rfl
@[simp] theorem freeMarker_vsync (s : State) : (freeMarker s).vsync = s.vsync := rfl
@[simp] theorem freeMarker_r (s : State) : (freeMarker s).r = s.r := rfl
@[simp] theorem freeMarker_g (s : State) : (freeMarker s).g = s.g := rfl
@[simp] theorem freeMarker_b (s : State) : (freeMarker s).b = s.b := rfl
@[simp] theorem freeMarker_hrun (s : State) : (freeMarker s).hrun = s.hrun := rfl
@[simp] theorem freeMarker_ien (s : State) : (freeMarker s).ien = s.ien := rfl
@[simp] theorem freeMarker_hirq (s : State) : (freeMarker s).hirq = s.hirq := rfl
@[simp] theorem freeMarker_hcnt (s : State) : (freeMarker s).hcnt = s.hcnt := rfl
@[simp] theorem freeMarker_pst (s : State) : (freeMarker s).pst = s.pst := rfl
@[simp] theorem freeMarker_pleft (s : State) : (freeMarker s).pleft = s.pleft := rfl
@[simp] theorem freeMarker_marker (s : State) : (freeMarker s).marker = Config.unspecifiedMarker s.freeIdx % 2 ^ s.cfg.lcWidth := rfl
@[simp] theorem freeMarker_spin (s : State) : (freeMarker s).spin = s.spin := rfl
@[simp] theorem freeMarker_stuck (s : State) : (freeMarker s).stuck = s.stuck := rfl
@[simp] theorem freeMarker_wseq (s : State) : (freeMarker s).wseq = s.wseq := rfl
@[simp] theorem freeMarker_rseq (s : State) : (freeMarker s).rseq = s.rseq := rfl
@[simp] theorem freeMarker_hist (s : State) : (freeMarker s).hist = s.hist := rfl
@[simp] theorem freeMarker_log (s : State) : (freeMarker s).log = s.log := rfl
@[simp] theorem freeMarker_sched (s : State) : (freeMarker s).sched = s.sched := rfl
@[simp] theorem freeMarker_results (s : State) : (freeMarker s).results = s.results := rfl
@[simp] theorem freeMarker_freeIdx (s : State) : (freeMarker s).freeIdx = s.freeIdx + 1 := rfl
@[simp] theorem freeMarker_readWindow (s : State) : (freeMarker s).readWindow = s.readWindow := rfl

@[simp] theorem clearRecords_cfg (s : State) : (clearRecords s).cfg = s.cfg := rfl
@[simp] theorem clearRecords_lc (s : State) : (clearRecords s).lc = s.lc := rfl
@[simp] theorem clearRecords_vsync (s : State) : (clearRecords s).vsync = s.vsync := rfl
@[simp] theorem clearRecords_r (s : State) : (clearRecords s).r = s.r := rfl
@[simp] theorem clearRecords_g (s : State) : (clearRecords s).g = s.g := rfl
@[simp] theorem clearRecords_b (s : State) : (clearRecords s).b = s.b := rfl
@[simp] theorem clearRecords_hrun (s : State) : (clearRecords s).hrun = s.hrun := rfl
@[simp] theorem clearRecords_ien (s : State) : (clearRecords s).ien = s.ien := rfl
@[simp] theorem clearRecords_hirq (s : State) : (clearRecords s).hirq = s.hirq := rfl
@[simp] theorem clearRecords_hcnt (s : State) : (clearRecords s).hcnt = s.hcnt := rfl
@[simp] theorem clearRecords_pst (s : State) : (clearRecords s).pst = s.pst := rfl
@[simp] theorem clearRecords_pleft (s : State) : (clearRecords s).pleft = s.pleft := rfl
@[simp] theorem clearRecords_marker (s : State) : (clearRecords s).marker = s.marker := rfl
@[simp] theorem clearRecords_spin (s : State) : (clearRecords s).spin = s.spin := rfl
@[simp] theorem clearRecords_stuck (s : State) : (clearRecords s).stuck = false := rfl
@[simp] theorem clearRecords_wseq (s : State) : (clearRecords s).wseq = s.wseq := rfl
@[simp] theorem clearRecords_rseq (s : State) : (clearRecords s).rseq = s.rseq := rfl
@[simp] theorem clearRecords_hist (s : State) : (clearRecords s).hist = s.hist := rfl
@[simp] theorem clearRecords_log (s : State) : (clearRecords s).log = [] := rfl
@[simp] theorem clearRecords_sched (s : State) : (clearRecords s).sched = s.sched := rfl
@[simp] theorem clearRecords_results (s : State) : (clearRecords s).results = s.results := rfl
@[simp] theorem clearRecords_freeIdx (s : State) : (clearRecords s).freeIdx = s.freeIdx := rfl
@[simp] theorem clearRecords_readWindow (s : State) : (clearRecords s).readWindow = s.readWindow := rfl

@[simp] theorem eraseCounter_cfg (s : State) : (eraseCounter s).cfg = s.cfg := rfl
@[simp] theorem eraseCounter_lc (s : State) : (eraseCounter s).lc = s.lc := rfl
@[simp] theorem eraseCounter_vsync (s : State) : (eraseCounter s).vsync = s.vsync := rfl
@[simp] theorem eraseCounter_r (s : State) : (eraseCounter s).r = s.r := rfl
@[simp] theorem eraseCounter_g (s : State) : (eraseCounter s).g = s.g := rfl
@[simp] theorem eraseCounter_b (s : State) : (eraseCounter s).b = s.b := rfl
@[simp] theorem eraseCounter_hrun (s : State) : (eraseCounter s).hrun = s.hrun := rfl
@[simp] theorem eraseCounter_ien (s : State) : (eraseCounter s).ien = s.ien := rfl
@[simp] theorem eraseCounter_hirq (s : State) : (eraseCounter s).hirq = s.hirq := rfl
@[simp] theorem eraseCounter_hcnt (s : State) : (eraseCounter s).hcnt = 0 := rfl
@[simp] theorem eraseCounter_pst (s : State) : (eraseCounter s).pst = s.pst := rfl
@[simp] theorem eraseCounter_pleft (s : State) : (eraseCounter s).pleft = s.pleft := rfl
@[simp] theorem eraseCounter_marker (s : State) : (eraseCounter s).marker = s.marker := rfl
@[simp] theorem eraseCounter_spin (s : State) : (eraseCounter s).spin = s.spin := rfl
@[simp] theorem eraseCounter_stuck (s : State) : (eraseCounter s).stuck = s.stuck := rfl
@[simp] theorem eraseCounter_wseq (s : State) : (eraseCounter s).wseq = s.wseq := rfl
@[simp] theorem eraseCounter_rseq (s : State) : (eraseCounter s).rseq = s.rseq := rfl
@[simp] theorem eraseCounter_hist (s : State) : (eraseCounter s).hist = s.hist := rfl
@[simp] theorem eraseCounter_log (s : State) : (eraseCounter s).log = s.log := rfl
@[simp] theorem eraseCounter_sched (s : State) : (eraseCounter s).sched = s.sched := rfl
@[simp] theorem eraseCounter_results (s : State) : (eraseCounter s).results = s.results := rfl
@[simp] theorem eraseCounter_freeIdx (s : State) : (eraseCounter s).freeIdx = s.freeIdx := rfl
@[simp] theorem eraseCounter_readWindow (s : State) : (eraseCounter s).readWindow = s.readWindow := rfl

end Sys2Proof.Machine
end

