-- ==== Sys2Proof/Laws/Ops.lean ====
section
/-! SUPPORT. One specification lemma for each shared operation that a mode or a test branches on (the read and the write of
LineCounter, the restart of the history, T3 and T4 of the handler, the guard combinator, the spin bound): all it can do, said
once, so that later proofs cite it and do not unfold it. -/

namespace Sys2Proof.Machine

/-! ### Guards -/

theorem requires_true {p : Bool} {i : Instr} {k : Result} (h : p = true) : requires p i k = k := by
  simp [requires, h]

theorem requires_false {p : Bool} {i : Instr} {k : Result} (h : p = false) :
    requires p i k = .refused (.notEnabled i) := by
  simp [requires, h]

/-- A guarded operation that answers a next state had its guard true, and its body answered that state. -/
theorem requires_next {p : Bool} {i : Instr} {k : Result} {t : State} :
    requires p i k = .next t ↔ p = true ∧ k = .next t := by
  cases p <;> simp [requires]

/-! ### The read of LineCounter -/

theorem rdLC_of_immediate {s : State} (h : s.cfg.lcVisibility = .immediate) : rdLC s = (s.lc, s) := by
  simp [rdLC, h]

theorem rdLC_of_eventual {s : State} (h : s.cfg.lcVisibility = .eventual) :
    rdLC s = (s.histAt s.readIndex, { s with rseq := s.readIndex, freeIdx := s.freeIdx + 1 }) := by
  simp [rdLC, h]

/-- Whatever the mode, a read writes RSEQ and the free-value counter only. -/
theorem rdLC_frame (s : State) :
    (rdLC s).2 = { s with rseq := (rdLC s).2.rseq, freeIdx := (rdLC s).2.freeIdx } := by
  unfold rdLC; split <;> rfl

/-- The same, with the read's value, RSEQ and counter named. -/
theorem rdLC_form (s : State) : ∃ v j k, rdLC s = (v, { s with rseq := j, freeIdx := k }) :=
  ⟨_, _, _, Prod.ext rfl (rdLC_frame s)⟩

/-- The write an eventual read returns is none older than the last one seen, and none that has not happened (R45). -/
theorem readIndex_bounds {s : State} (h : s.rseq ≤ s.wseq) : s.rseq ≤ s.readIndex ∧ s.readIndex ≤ s.wseq := by
  have hlt : s.readLag % (s.wseq - s.rseq + 1) < s.wseq - s.rseq + 1 := Nat.mod_lt _ (Nat.succ_pos _)
  unfold State.readIndex
  omega

/-- Once the law "eventually" is due the read returns the newest write (R45). -/
theorem readIndex_due {s : State} (h : Config.visibleWithin s.readWindow ≤ s.freeIdx - s.readWindow) :
    s.readIndex = s.wseq := by
  simp [State.readIndex, State.readLag, h]

/-- Inside HIST the value read is the entry. -/
theorem histAt_eq {s : State} {j : Nat} {v : Nat} (h : s.hist[j]? = some v) : s.histAt j = v := by
  simp [State.histAt, List.getD, h]

theorem rdLC_snd_cfg (s : State) : (rdLC s).2.cfg = s.cfg := by rw [rdLC_frame]
theorem rdLC_snd_lc (s : State) : (rdLC s).2.lc = s.lc := by rw [rdLC_frame]
theorem rdLC_snd_log (s : State) : (rdLC s).2.log = s.log := by rw [rdLC_frame]

/-! ### The write of LineCounter, the restart of the history -/

theorem writeLC_of_immediate {v : Nat} {s : State} (h : s.cfg.lcVisibility = .immediate) :
    writeLC v s = { s with lc := v } := by
  simp [writeLC, h]

theorem writeLC_of_eventual {v : Nat} {s : State} (h : s.cfg.lcVisibility = .eventual) :
    writeLC v s =
      { s with lc := v, wseq := s.wseq + 1, hist := s.hist ++ [v], readWindow := s.freeIdx } := by
  simp [writeLC, h]

/-- Whatever the mode, the write touches LC and the ghost items of eventual mode only. -/
theorem writeLC_frame (v : Nat) (s : State) :
    writeLC v s = { s with
      lc := v, wseq := (writeLC v s).wseq, hist := (writeLC v s).hist, readWindow := (writeLC v s).readWindow } := by
  unfold writeLC; split <;> rfl

theorem restartHistory_of_immediate {s : State} (h : s.cfg.lcVisibility = .immediate) : restartHistory s = s := by
  simp [restartHistory, h]

theorem restartHistory_of_eventual {s : State} (h : s.cfg.lcVisibility = .eventual) :
    restartHistory s = { s with wseq := 0, rseq := 0, hist := [0], readWindow := s.freeIdx } := by
  simp [restartHistory, h]

/-- Whatever the mode, the restart touches the ghost items of eventual mode only. -/
theorem restartHistory_frame (s : State) :
    restartHistory s = { s with
      wseq := (restartHistory s).wseq, rseq := (restartHistory s).rseq, hist := (restartHistory s).hist,
      readWindow := (restartHistory s).readWindow } := by
  unfold restartHistory; split <;> rfl

/-! ### The handler -/

/-- T3 writes VSYNC and the log only. -/
theorem updateVsync_frame (k : Nat) (s : State) :
    updateVsync k s = { s with vsync := (updateVsync k s).vsync, log := (updateVsync k s).log } := by
  unfold updateVsync; split
  · rfl
  · split <;> rfl

theorem updateVsync_vsync (k : Nat) (s : State) :
    (updateVsync k s).vsync = if k = 0 then false else if k = s.cfg.vBpStart then true else s.vsync := by
  unfold updateVsync; split
  · rfl
  · split <;> rfl

theorem updateVsync_log (k : Nat) (s : State) :
    (updateVsync k s).log = s.log ++
      (if k = 0 then (if s.vsync then [.vsFall] else [])
       else if k = s.cfg.vBpStart then (if s.vsync then [] else [.vsRise]) else []) := by
  unfold updateVsync; split
  · rfl
  · split
    · rfl
    · exact (List.append_nil _).symm

theorem nextLine_eq (c : Cfg) (k : Nat) : nextLine c k = if k + 1 = c.vTotal then 0 else k + 1 := by
  simp [nextLine, lineWraps]

/-- T4 stays inside the frame (R86). -/
theorem nextLine_lt {c : Cfg} {k : Nat} (h : k < c.vTotal) : nextLine c k < c.vTotal := by
  rw [nextLine_eq]; split <;> omega

/-- T4 is the successor modulo the frame (R86). -/
theorem nextLine_eq_mod {c : Cfg} {k : Nat} (h : k < c.vTotal) : nextLine c k = (k + 1) % c.vTotal := by
  rw [nextLine_eq]; split
  · next he => rw [he, Nat.mod_self]
  · rw [Nat.mod_eq_of_lt (by omega)]

/-- The handler's effect, whole: T1 to T4 on the pre-value LC, the ghost items of eventual mode left to `writeLC`. -/
theorem handlerBody_frame (s : State) :
    handlerBody s = { s with
      hcnt := 0, hirq := false, lc := nextLine s.cfg s.lc,
      vsync := (updateVsync s.lc s).vsync, log := (updateVsync s.lc s).log,
      wseq := (handlerBody s).wseq, hist := (handlerBody s).hist, readWindow := (handlerBody s).readWindow } := by
  unfold handlerBody advanceLine
  rw [writeLC_frame, updateVsync_frame]
  simp only [updateVsync_vsync, updateVsync_log, acknowledge_vsync, rebaseline_vsync, acknowledge_log, rebaseline_log,
    acknowledge_cfg, rebaseline_cfg]
  rfl

theorem handlerBody_of_immediate {s : State} (h : s.cfg.lcVisibility = .immediate) :
    (handlerBody s).wseq = s.wseq ∧ (handlerBody s).hist = s.hist ∧ (handlerBody s).readWindow = s.readWindow := by
  unfold handlerBody advanceLine
  rw [updateVsync_frame, writeLC_of_immediate (by exact h)]
  exact ⟨rfl, rfl, rfl⟩

theorem handlerBody_of_eventual {s : State} (h : s.cfg.lcVisibility = .eventual) :
    (handlerBody s).wseq = s.wseq + 1 ∧ (handlerBody s).hist = s.hist ++ [nextLine s.cfg s.lc] ∧
      (handlerBody s).readWindow = s.freeIdx := by
  unfold handlerBody advanceLine
  rw [updateVsync_frame, writeLC_of_eventual (by exact h)]
  exact ⟨rfl, rfl, rfl⟩

/-! ### The spin bound, the well-formed configuration -/

theorem atSpinBound_iff {s : State} : s.atSpinBound = true ↔ ∃ n, s.cfg.spinBound = some n ∧ n ≤ s.spin := by
  unfold State.atSpinBound; split <;> simp_all

/-- `WF(Cfg)` as R5 writes it. -/
theorem wf_iff {c : Cfg} : c.wf = true ↔
    (0 < c.vBpStart ∧ c.vBpStart < c.vActiveStart ∧ c.vActiveStart < c.vFpStart ∧ c.vFpStart < c.vTotal) ∧
    (1 ≤ c.vActiveCount ∧ c.vActiveCount ≤ c.vFpStart - c.vActiveStart) ∧
    (0 < c.hPulseWidth ∧ c.hPulseWidth < c.hPeriod) ∧ c.vTotal ≤ 2 ^ c.lcWidth := by
  simp [Cfg.wf, Cfg.thresholdsOrdered, Cfg.burstFits, Cfg.pulseFits, Cfg.counterFits, and_assoc]

end Sys2Proof.Machine
end

