-- ==== Sys2Proof/Laws/Exec.lean ====
section
/-! SUPPORT. Inversion: what an operation did, and what held before it, when it answers a next state; one lemma for each
operation, then the same for a step and for a run. -/

namespace Sys2Proof.Machine

theorem execReset_next {s t : State} (h : exec .reset s = .next t) :
    t = restartHistory (freeMarker (clearRecords
      (setRunning false (idleGenerator (idlePacer (idleOutputs s)))))) := by
  simpa [exec, execReset] using h.symm

theorem execStart_next {s t : State} (h : exec .start s = .next t) :
    s.hrun = false ∧ s.cfg.wf = true ∧
      t = restartHistory (setRunning true (idleGenerator (idlePacer (idleOutputs s)))) := by
  obtain ⟨hg, hk⟩ := requires_next.mp h
  simp only [Bool.and_eq_true, Bool.not_eq_true'] at hg
  exact ⟨hg.1, hg.2, by simpa using hk.symm⟩

theorem execStop_next {s t : State} (h : exec .stop s = .next t) :
    s.hrun = true ∧ t = setRunning false (acknowledge s) := by
  obtain ⟨hg, hk⟩ := requires_next.mp h
  exact ⟨hg, by simpa using hk.symm⟩

theorem execHpulse_next {s t : State} (h : exec .hpulse s = .next t) : s.hrun = true ∧ t = pulseBoundary s := by
  obtain ⟨hg, hk⟩ := requires_next.mp h
  exact ⟨hg, by simpa using hk.symm⟩

theorem execSpur_next {s t : State} (h : exec .spur s = .next t) : s.ien = true ∧ t = raiseSpurious s := by
  obtain ⟨hg, hk⟩ := requires_next.mp h
  exact ⟨hg, by simpa using hk.symm⟩

theorem execHclk_next {s t : State} (h : exec .hclk s = .next t) :
    s.hrun = true ∧ ((s.counterWraps = true ∧ t = pulseBoundary (rebaseline s)) ∨
      (s.counterWraps = false ∧ t = { s with hcnt := s.hcnt + 1 })) := by
  obtain ⟨hg, hk⟩ := requires_next.mp h
  refine ⟨hg, ?_⟩
  cases hw : s.counterWraps <;> simp_all

theorem execTick_next {s t : State} (h : exec .tick s = .next t) :
    s.ien = true ∧ s.hirq = true ∧ s.lc < s.cfg.vTotal ∧ t = handlerBody s := by
  obtain ⟨hg, hk⟩ := requires_next.mp h
  simp only [Bool.and_eq_true] at hg
  split at hk
  · next hl => exact ⟨hg.1, hg.2, hl, by simpa using hk.symm⟩
  · cases hk

theorem execRdlc_next {s t : State} (h : exec .rdlc s = .next t) :
    t = { (rdLC s).2 with results := s.results ++ [(rdLC s).1] } := by
  simpa [exec, execRdlc] using h.symm

theorem execPpoll_next {s t : State} (h : exec .ppoll s = .next t) :
    s.pst = .idle ∧
      (((rdLC s).1 = s.cfg.vActiveStart ∧ t = { (rdLC s).2 with pleft := s.cfg.vActiveCount, pst := .begin }) ∨
       ((rdLC s).1 ≠ s.cfg.vActiveStart ∧ t = (rdLC s).2)) := by
  obtain ⟨hg, hk⟩ := requires_next.mp h
  refine ⟨by simpa using hg, ?_⟩
  split at hk
  · next hv => exact .inl ⟨hv, by simpa using hk.symm⟩
  · next hv => exact .inr ⟨hv, by simpa using hk.symm⟩

theorem execPbegin_next {s t : State} (h : exec .pbegin s = .next t) :
    s.pst = .begin ∧
      t = State.logged [.draw (rdLC s).1] { (rdLC s).2 with marker := (rdLC s).1, pst := .drive } := by
  obtain ⟨hg, hk⟩ := requires_next.mp h
  exact ⟨by simpa using hg, by simpa using hk.symm⟩

theorem execPdrive_next {r g b : Bool} {s t : State} (h : exec (.pdrive r g b) s = .next t) :
    s.pst = .drive ∧ t = setColour r g b s := by
  obtain ⟨hg, hk⟩ := requires_next.mp h
  exact ⟨by simpa using hg, by simpa using hk.symm⟩

theorem execPblank_next {s t : State} (h : exec .pblank s = .next t) :
    s.pst = .drive ∧ t = { setColour false false false s with spin := 0, pst := .wait } := by
  obtain ⟨hg, hk⟩ := requires_next.mp h
  exact ⟨by simpa using hg, by simpa using hk.symm⟩

theorem execPwait_next {s t : State} (h : exec .pwait s = .next t) :
    s.pst = .wait ∧
      (((rdLC s).1 ≠ s.marker ∧ s.pleft ≠ 0 ∧ t = finishLine (rdLC s).2) ∨
       ((rdLC s).1 = s.marker ∧ s.atSpinBound = true ∧ t = { (rdLC s).2 with stuck := true }) ∨
       ((rdLC s).1 = s.marker ∧ s.atSpinBound = false ∧ t = { (rdLC s).2 with spin := s.spin + 1 })) := by
  obtain ⟨hg, hk⟩ := requires_next.mp h
  refine ⟨by simpa using hg, ?_⟩
  split at hk
  · next hv =>
    split at hk
    · next hb => exact .inr (.inl ⟨hv, hb, by simpa using hk.symm⟩)
    · next hb => exact .inr (.inr ⟨hv, by simpa using hb, by simpa using hk.symm⟩)
  · next hv =>
    split at hk
    · cases hk
    · next hp => exact .inl ⟨hv, hp, by simpa using hk.symm⟩

/-- What an operation of MAIN can touch: the colours, the pacer, STUCK, the log, the results, and in eventual mode RSEQ and
the free-value counter. -/
theorem execMain_frame {i : Instr} {s t : State} (hm : agentOf i = .main) (h : exec i s = .next t) :
    t = { s with
      r := t.r, g := t.g, b := t.b, pst := t.pst, pleft := t.pleft, marker := t.marker, spin := t.spin,
      stuck := t.stuck, log := t.log, results := t.results, rseq := t.rseq, freeIdx := t.freeIdx } := by
  cases i with
  | rdlc => rw [execRdlc_next h, rdLC_frame]
  | ppoll => obtain ⟨_, ⟨_, rfl⟩ | ⟨_, rfl⟩⟩ := execPpoll_next h <;> rw [rdLC_frame]
  | pbegin => obtain ⟨_, rfl⟩ := execPbegin_next h; rw [rdLC_frame]; rfl
  | pdrive => obtain ⟨_, rfl⟩ := execPdrive_next h; rfl
  | pblank => obtain ⟨_, rfl⟩ := execPblank_next h; rfl
  | pwait =>
    obtain ⟨_, ⟨_, _, rfl⟩ | ⟨_, _, rfl⟩ | ⟨_, _, rfl⟩⟩ := execPwait_next h
    · rw [rdLC_frame]; rfl
    · rw [rdLC_frame]
    · rw [rdLC_frame]
  | reset | start | stop | hpulse | spur | tick | hclk => cases hm

/-- No operation ends in a fault (R140): there is none. -/
theorem fault_false (why : Fault) : False := nomatch why

/-- A step that answers a next state took a byte off the schedule, and performed the operation it decodes to or dropped it
unperformed because its guard refused it. -/
theorem step_next {s t : State} (h : step s = .next t) :
    ∃ b bs i, s.sched = b :: bs ∧ decode b = .ok i ∧
      (exec i { s with sched := bs } = .next t ∨
       ((∃ j, exec i { s with sched := bs } = .refused (.notEnabled j)) ∧ t = { s with sched := bs })) := by
  cases hs : s.sched with
  | nil => simp [step, stepBody, nextByte, hs] at h
  | cons b bs =>
    simp only [step, stepBody, nextByte, hs] at h
    cases hd : decode b with
    | error why => simp [hd] at h
    | ok i =>
      simp only [hd, stepOp] at h
      refine ⟨b, bs, i, rfl, hd, ?_⟩
      cases he : exec i { s with sched := bs } with
      | next u => exact .inl (by simpa [he] using h)
      | fault why => exact (fault_false why).elim
      | refused why =>
        cases why <;> simp [he] at h
        exact .inr ⟨⟨_, rfl⟩, h.symm⟩

@[simp] theorem execSeq_nil (s : State) : execSeq [] s = .next s := rfl

/-- A run of `i` and then `is` that answers a next state, taken apart. -/
theorem execSeq_cons_next {i : Instr} {is : List Instr} {s t : State} :
    execSeq (i :: is) s = .next t ↔ ∃ u, exec i s = .next u ∧ execSeq is u = .next t := by
  simp only [execSeq]
  cases exec i s <;> simp

/-- A run of `is` and then `js`, taken apart. -/
theorem execSeq_append_next {is js : List Instr} {s t : State} :
    execSeq (is ++ js) s = .next t ↔ ∃ u, execSeq is s = .next u ∧ execSeq js u = .next t := by
  induction is generalizing s with
  | nil => simp
  | cons i is ih =>
    simp only [List.cons_append, execSeq_cons_next, ih]
    constructor
    · rintro ⟨u, hu, v, hv, ht⟩; exact ⟨v, ⟨u, hu, hv⟩, ht⟩
    · rintro ⟨v, ⟨u, hu, hv⟩, ht⟩; exact ⟨u, hu, v, hv, ht⟩

theorem afterOp_of_next {i : Instr} {s t : State} (h : exec i s = .next t) : afterOp i s = t := by
  simp [afterOp, h]

/-- An operation is taken exactly when it answers a next state. -/
theorem taken_iff {i : Instr} {s : State} : taken i s = true ↔ ∃ t, exec i s = .next t := by
  unfold taken
  cases exec i s <;> simp

theorem happens_iff {i j : Instr} {s : State} : happens j i s = true ↔ i = j ∧ ∃ t, exec i s = .next t := by
  simp [happens, taken_iff]

/-- A refused operation leaves a schedule's state as it was (R8). -/
theorem afterOp_of_not_taken {i : Instr} {s : State} (h : taken i s = false) : afterOp i s = s := by
  unfold taken at h
  unfold afterOp
  cases he : exec i s <;> simp_all

theorem taken_of_next {i : Instr} {s t : State} (h : exec i s = .next t) : taken i s = true := by
  simp [taken, h]

end Sys2Proof.Machine
end

