-- ==== Sys2Proof/Laws/PerInstr.lean ====
section
/-! SUPPORT. The encoding round trip, operation by operation (spec/30_encoding.md R60 to R64). -/

namespace Sys2Proof.Laws.Encoding

/-- The byte of an operation decodes to the operation. -/
def Statement (i : Instr) : Prop := decode (encode i) = .ok i

theorem reset : Statement .reset := rfl
theorem start : Statement .start := rfl
theorem stop : Statement .stop := rfl
theorem hpulse : Statement .hpulse := rfl
theorem spur : Statement .spur := rfl
theorem tick : Statement .tick := rfl
theorem rdlc : Statement .rdlc := rfl
theorem ppoll : Statement .ppoll := rfl
theorem pbegin : Statement .pbegin := rfl
theorem pdrive (r g b : Bool) : Statement (.pdrive r g b) := by cases r <;> cases g <;> cases b <;> rfl
theorem pblank : Statement .pblank := rfl
theorem pwait : Statement .pwait := rfl
theorem hclk : Statement .hclk := rfl

end Sys2Proof.Laws.Encoding
end

