-- ==== Sys2Proof/Tests/Slice0.lean ====
section
/-! SUPPORT. The model's own tests: decoding of bytes written out from spec/30_encoding.md, the refusals of WF(Cfg), vectors
of spec/95_test_vectors.md one step at a time, and for each statement a witness that its hypotheses are met. -/

namespace Sys2Proof.Tests

open Sys2Proof Sys2Proof.Machine

/-! ### Configurations and states of spec/95_test_vectors.md -/

/-- REF, with `V_BP_START = 2`. -/
def ref : Cfg := Cfg.launch

/-- TINY, with `H_PERIOD = 4` and `H_PULSE_WIDTH = 1`, so TINY-H as well. -/
def tiny : Cfg :=
  { ref with vBpStart := 1, vActiveStart := 2, vFpStart := 4, vTotal := 5, vActiveCount := 2 }

/-- TINY-B. -/
def tinyB : Cfg := { tiny with spinBound := some 2 }

/-- TINY in eventual mode. -/
def tinyE : Cfg := { tiny with lcVisibility := .eventual }

/-- The smallest frame that WF(Cfg) admits: four lines. -/
def least : Cfg :=
  { ref with vBpStart := 1, vActiveStart := 2, vFpStart := 3, vTotal := 4, vActiveCount := 1, lcWidth := 2 }

/-- The running start state S0 (R166). -/
def s0 (c : Cfg) : State := { State.resetWith c with hrun := true, ien := true }

/-- S0 at line `k`, VSYNC at level `v`, a pulse pending. -/
def pending (c : Cfg) (k : Nat) (v : Bool) : State := { s0 c with lc := k, vsync := v, hirq := true }

/-- S0 with LC at `k`, the pacer at `p` with `n` lines left and marker `m`. -/
def pacing (c : Cfg) (k : Nat) (p : Pst) (n m : Nat) : State :=
  { s0 c with lc := k, vsync := true, pst := p, pleft := n, marker := m }

def nextOf : Result → Option State
  | .next t => some t
  | .fault _ => none
  | .refused _ => none

def refusalOf : Result → Option Refusal
  | .next _ => none
  | .fault _ => none
  | .refused why => some why

/-! ### Decoding (V-D) -/

theorem test_decode_reset : decode 0b00010000#8 = .ok .reset := rfl
theorem test_decode_start : decode 0b00100000#8 = .ok .start := rfl
theorem test_decode_stop : decode 0b00110000#8 = .ok .stop := rfl
theorem test_decode_hpulse : decode 0b01000000#8 = .ok .hpulse := rfl
theorem test_decode_spur : decode 0b01010000#8 = .ok .spur := rfl
theorem test_decode_tick : decode 0b01100000#8 = .ok .tick := rfl
theorem test_decode_rdlc : decode 0b01110000#8 = .ok .rdlc := rfl
theorem test_decode_ppoll : decode 0b10000000#8 = .ok .ppoll := rfl
theorem test_decode_pbegin : decode 0b10010000#8 = .ok .pbegin := rfl
theorem test_decode_pdrive_red : decode 0b10100100#8 = .ok (.pdrive true false false) := rfl
theorem test_decode_pdrive_five : decode 0b10100101#8 = .ok (.pdrive true false true) := rfl
theorem test_decode_pblank : decode 0b10110000#8 = .ok .pblank := rfl
theorem test_decode_pwait : decode 0b11000000#8 = .ok .pwait := rfl
theorem test_decode_hclk : decode 0b11010000#8 = .ok .hclk := rfl
theorem test_decode_reserved : decode 0x00#8 = .error .reservedOpc ∧ decode 0x0F#8 = .error .reservedOpc ∧
    decode 0xE0#8 = .error .reservedOpc ∧ decode 0xFF#8 = .error .reservedOpc := ⟨rfl, rfl, rfl, rfl⟩
theorem test_decode_argNotZero : decode 0x11#8 = .error .argNotZero ∧ decode 0x6F#8 = .error .argNotZero ∧
    decode 0xD8#8 = .error .argNotZero := ⟨rfl, rfl, rfl⟩
theorem test_decode_argBit3 : decode 0xA8#8 = .error .argBit3Set ∧ decode 0xAF#8 = .error .argBit3Set := ⟨rfl, rfl⟩
theorem test_decodeTableWord : decodeTableWord 8 0xA3 = some (.pdrive false true true) ∧
    decodeTableWord 8 0 = none := ⟨rfl, rfl⟩
theorem test_fetch : nextOf (step (State.reset.withFetchWord 8 0x20)) = some (s0 ref) := by decide
theorem test_traceText : traceText (pdriveDigit 4#3) = "PDRIVE 4" ∧ pdriveDigit 4#3 = .pdrive true false false := by decide

/-! ### WF(Cfg) refuses (R5) -/

theorem test_wf_accepts : ref.wf = true ∧ tiny.wf = true ∧ tinyB.wf = true ∧ tinyE.wf = true ∧ least.wf = true := by decide
theorem test_wf_refuses_no_sync_line : Cfg.wf { ref with vBpStart := 0 } = false := by decide
theorem test_wf_refuses_no_back_porch : Cfg.wf { ref with vBpStart := 34 } = false := by decide
theorem test_wf_refuses_no_active_line : Cfg.wf { ref with vActiveStart := 514 } = false := by decide
theorem test_wf_refuses_no_front_porch : Cfg.wf { ref with vTotal := 514 } = false := by decide
theorem test_wf_refuses_empty_burst : Cfg.wf { ref with vActiveCount := 0 } = false := by decide
theorem test_wf_refuses_long_burst : Cfg.wf { ref with vActiveCount := 481 } = false := by decide
theorem test_wf_refuses_empty_pulse : Cfg.wf { ref with hPulseWidth := 0 } = false := by decide
theorem test_wf_refuses_long_pulse : Cfg.wf { ref with hPulseWidth := 4 } = false := by decide
theorem test_wf_refuses_narrow_counter : Cfg.wf { ref with lcWidth := 9 } = false := by decide

/-! ### One-step vectors -/

/-- V-P. -/
theorem test_phase : phase ref 1 = some .sync ∧ phase ref 2 = some .backPorch ∧ phase ref 34 = some .active ∧
    phase ref 513 = some .active ∧ phase ref 514 = some .frontPorch ∧ phase ref 528 = none := by decide

/-- V-L1, MARKER apart. -/
theorem test_reset : (nextOf (exec .reset { pacing ref 300 .wait 200 299 with
      hirq := true, spin := 3, stuck := true, log := [.pulse] })).map
    (fun t => (t.lc, t.vsync, t.hirq, t.hrun, t.ien, t.pst, t.pleft, t.spin, t.stuck, t.log)) =
    some (0, true, false, false, false, .idle, 0, 0, false, []) := rfl

/-- V-L8: STUCK stays. -/
theorem test_start : nextOf (exec .start { State.resetWith ref with lc := 100, stuck := true }) =
    some { s0 ref with stuck := true } := by decide

/-- V-L4. -/
theorem test_start_refused : refusalOf (exec .start (State.resetWith { ref with vBpStart := 0 })) =
    some (.notEnabled .start) := by decide

/-- V-L6. -/
theorem test_stop : nextOf (exec .stop (pending ref 100 true)) =
    some { State.resetWith ref with lc := 100 } := by decide

/-- V-H1, V-H2. -/
theorem test_hpulse : (nextOf (exec .hpulse (s0 ref))).map (fun t => (t.hirq, t.lc, t.log)) = some (true, 0, [.pulse]) ∧
    (nextOf (exec .hpulse (pending ref 7 true))).map (fun t => (t.hirq, t.lc, t.log)) =
      some (true, 7, [.missed, .pulse]) := by decide

/-- V-H4, V-H5. -/
theorem test_spur : (nextOf (exec .spur (s0 ref))).map (fun t => (t.hirq, t.log)) = some (true, [.spurious]) ∧
    refusalOf (exec .spur (State.resetWith ref)) = some (.notEnabled .spur) := by decide

/-- V-H6. -/
theorem test_hclk_counts : (nextOf (exec .hclk { s0 tiny with hcnt := 2 })).map (fun t => (t.hcnt, t.hirq, t.log)) =
    some (3, false, []) := by decide

/-- V-H8. -/
theorem test_hclk_wraps : (nextOf (exec .hclk { pending tiny 0 true with hcnt := 3 })).map
    (fun t => (t.hcnt, t.hirq, t.log)) = some (0, true, [.missed, .pulse]) := by decide

/-- V-H10, V-H11. -/
theorem test_hsync : (s0 tiny).hsync = false ∧ State.hsync { s0 tiny with hcnt := 1 } = true ∧
    (State.resetWith tiny).hsync = true := by decide

/-- V-T1 with V-T14's counter. -/
theorem test_tick_falls : (nextOf (exec .tick { pending ref 0 true with hcnt := 5 })).map
    (fun t => (t.lc, t.vsync, t.hirq, t.hcnt, t.log)) = some (1, false, false, 0, [.vsFall]) := by decide

/-- V-T3, V-T7. -/
theorem test_tick_rises_and_wraps :
    (nextOf (exec .tick (pending ref 2 false))).map (fun t => (t.lc, t.vsync, t.log)) = some (3, true, [.vsRise]) ∧
    (nextOf (exec .tick (pending ref 527 true))).map (fun t => (t.lc, t.vsync, t.log)) = some (0, true, []) := by decide

/-- V-M1. -/
theorem test_rdlc : nextOf (exec .rdlc { s0 ref with lc := 34 }) = some { s0 ref with lc := 34, results := [34] } := by
  decide

/-- V-PP2, V-PP3. -/
theorem test_ppoll : (nextOf (exec .ppoll (pacing ref 34 .idle 0 0))).map (fun t => (t.pst, t.pleft)) =
      some (.begin, 480) ∧
    nextOf (exec .ppoll (pacing ref 35 .idle 0 0)) = some (pacing ref 35 .idle 0 0) := by decide

/-- V-PP6. -/
theorem test_pbegin : (nextOf (exec .pbegin (pacing ref 35 .begin 480 0))).map (fun t => (t.marker, t.pst, t.log)) =
    some (35, .drive, [.draw 35]) := by decide

/-- V-PP8, V-PP11. -/
theorem test_pdrive : (nextOf (exec (.pdrive true false false) (pacing ref 34 .drive 480 34))).map
      (fun t => (t.r, t.g, t.b)) = some (true, false, false) ∧
    (nextOf (exec (.pdrive true false true) (pacing ref 34 .drive 480 34))).map (fun t => (t.r, t.g, t.b)) =
      some (true, false, true) := by decide

/-- V-PP13. -/
theorem test_pblank : (nextOf (exec .pblank { pacing ref 34 .drive 480 34 with g := true, b := true, spin := 9 })).map
    (fun t => (t.r, t.g, t.b, t.spin, t.pst)) = some (false, false, false, 0, .wait) := by decide

/-- V-W1, V-W3, V-W5. -/
theorem test_pwait :
    nextOf (exec .pwait (pacing ref 34 .wait 480 34)) = some { pacing ref 34 .wait 480 34 with spin := 1 } ∧
    nextOf (exec .pwait (pacing ref 514 .wait 1 513)) = some (pacing ref 514 .idle 0 513) ∧
    nextOf (exec .pwait (pacing tiny 0 .wait 1 4)) = some (pacing tiny 0 .idle 0 4) := by decide

/-- V-W8, V-W9. -/
theorem test_pwait_bound :
    nextOf (exec .pwait { pacing tinyB 2 .wait 2 2 with spin := 2 }) =
      some { pacing tinyB 2 .wait 2 2 with spin := 2, stuck := true } ∧
    (nextOf (exec .pwait { pacing tinyB 3 .wait 2 2 with spin := 2, stuck := true })).map
      (fun t => (t.pst, t.pleft, t.stuck)) = some (.begin, 1, true) := by decide

/-! ### Refused operations count as no step (R8) in the degradations, the hazards and the fairness -/

/-- R141: a TICK in DRIVE overruns; a refused one is none. -/
theorem test_overrun_is_taken : overruns .tick { pacing tiny 2 .drive 2 2 with hirq := true } = true ∧
    overruns .tick (pacing tiny 2 .drive 2 2) = false := by decide

/-- R141: SPUR then TICK, and not SPUR alone, nor SPUR, STOP, START, HPULSE, TICK. -/
theorem test_spurious_is_served : spurious false (s0 tiny) [.spur, .rdlc, .tick] = true ∧
    spurious false (s0 tiny) [.spur] = false ∧
    spurious false (s0 tiny) [.spur, .stop, .start, .hpulse, .tick] = false := by decide

/-- R141: a refused PBEGIN is no step of MAIN, a refused TICK no line. -/
theorem test_stall_counts_steps : stalls 1 (s0 tiny) [.hpulse, .tick, .pbegin] = true ∧
    stalls 1 (s0 tiny) [.tick, .pbegin] = false ∧ stalls 1 (s0 tiny) [.hpulse, .tick, .ppoll] = false := by decide

/-- R179, R108: a refused PBEGIN does not restart HZ7's count, and a refused TICK owes no read. -/
theorem test_hazards_count_steps :
    noFrameStall 4 (pacing tiny 1 .wait 2 2) [.hpulse, .tick, .pbegin, .pwait] = false ∧
    pollRate true (s0 tiny) [.tick] = true := by decide

/-- R126: HPULSE, STOP, TICK (refused), START, HPULSE breaks F-2 (log 25, log 26). -/
theorem test_refused_tick_serves_nothing :
    ¬ HandlerInTime (fun n => if n = 1 then .stop else if n = 2 then .tick else if n = 3 then .start else .hpulse)
      (s0 tiny) := by
  intro h
  obtain ⟨k, h1, h2, h3⟩ := h 1 4 (by decide) (by decide) (by decide) (by decide)
  obtain rfl | rfl | rfl : k = 1 ∨ k = 2 ∨ k = 3 := by omega
  · exact absurd h3 (by decide)
  · exact absurd h3 (by decide)
  · exact absurd h3 (by decide)

/-! ### Witnesses: states that meet the hypotheses of the statements -/

theorem inv_s0_tiny : Inv (s0 tiny) :=
  ⟨by decide, by decide, by decide, by decide, by decide, by decide, by decide, by decide, by decide⟩

theorem inv_pending_last : Inv (pending tiny 4 true) :=
  ⟨by decide, by decide, by decide, by decide, by decide, by decide, by decide, by decide, by decide⟩

theorem inv_drive : Inv (pacing tiny 2 .drive 2 2) :=
  ⟨by decide, by decide, by decide, by decide, by decide, by decide, by decide, by decide, by decide⟩

theorem start_s0 (c : Cfg) (h : c.wf = true) : RunningStart (s0 c) :=
  ⟨h, rfl, rfl, ⟨rfl, rfl, rfl⟩, ⟨rfl, rfl, rfl, rfl⟩, ⟨rfl, rfl, rfl⟩⟩

theorem history_s0 : HistoryOk (s0 tinyE) := ⟨rfl, rfl, by decide, by decide, by decide⟩

theorem full_s0 : FullInv (s0 tinyE) :=
  ⟨⟨by decide, by decide, by decide, by decide, by decide, by decide, by decide, by decide, by decide⟩,
   fun _ => history_s0, ⟨by decide, by decide, by decide⟩⟩

theorem witness_TraceDecodeEncodeAgree :
    (∀ i ∈ [Instr.reset, .pdrive true true true, .hclk], i.wf = true) ∧
    decodeTrace [0x10#8, 0xA7#8, 0xD0#8] = .ok [.reset, .pdrive true true true, .hclk] := ⟨by decide, rfl⟩

theorem witness_IllegalBytesRefused :
    (∃ s : State, s.sched = [0x00#8] ∧ decode 0x00#8 = .error .reservedOpc) ∧
    (∃ s : State, s.sched = [0xDF#8, 0x10#8] ∧ decode 0xDF#8 = .error .argNotZero) ∧
    (∃ s : State, s.sched = [0xA8#8] ∧ decode 0xA8#8 = .error .argBit3Set) :=
  ⟨⟨{ s0 tiny with sched := [0x00#8] }, rfl, rfl⟩, ⟨{ s0 tiny with sched := [0xDF#8, 0x10#8] }, rfl, rfl⟩,
   ⟨{ s0 tiny with sched := [0xA8#8] }, rfl, rfl⟩⟩

theorem witness_StepPerformsScheduledOperation :
    (∃ s t : State, s.sched = [0x60#8] ∧ decode 0x60#8 = .ok .tick ∧ exec .tick { s with sched := [] } = .next t) ∧
    (∃ s : State, s.sched = [0x60#8] ∧ exec .tick { s with sched := [] } = .refused (.notEnabled .tick)) ∧
    (∃ s : State, s.sched = [0x60#8] ∧ exec .tick { s with sched := [] } = .refused .lineOutOfRange ∧
      ∀ j, Refusal.lineOutOfRange ≠ .notEnabled j) :=
  ⟨⟨{ pending tiny 4 true with sched := [0x60#8] }, _, rfl, rfl, rfl⟩, ⟨{ s0 tiny with sched := [0x60#8] }, rfl, rfl⟩,
   ⟨{ pending tiny 5 true with sched := [0x60#8] }, rfl, rfl, fun j => by simp⟩⟩

theorem witness_ResetOperation :
    ((s0 tinyE).cfg.lcVisibility = .eventual) ∧
    ∃ s t : State, exec .reset s = .next t ∧ s.stuck = true ∧ t.stuck = false :=
  ⟨rfl, { s0 tiny with stuck := true }, _, rfl, rfl, rfl⟩

theorem witness_StartOperation :
    ((State.resetWith ref).hrun = false ∧ (State.resetWith ref).cfg.wf = true ∧
      (State.resetWith ref).cfg.lcVisibility = .immediate) ∧
    ((State.resetWith tinyE).hrun = false ∧ (State.resetWith tinyE).cfg.wf = true ∧
      (State.resetWith tinyE).cfg.lcVisibility = .eventual) ∧
    (s0 ref).hrun = true ∧ (State.resetWith { ref with vActiveCount := 481 }).cfg.wf = false := by decide

theorem witness_StopOperation : (pending ref 100 true).hrun = true ∧ (State.resetWith ref).hrun = false := by decide

theorem witness_InitReachesRunningStart : State.reset.cfg.wf = true ∧ (pacing least 3 .wait 1 2).cfg.wf = true := by decide

theorem witness_StoppedWaitNeverEnds :
    ∃ s t : State, s.cfg.lcVisibility = .immediate ∧ s.hrun = false ∧ s.ien = false ∧ s.pst = .wait ∧ s.lc = s.marker ∧
      Instr.reset ∉ [Instr.pwait, .rdlc, .pwait] ∧ Instr.start ∉ [Instr.pwait, .rdlc, .pwait] ∧
      execSeq [.pwait, .rdlc, .pwait] s = .next t :=
  ⟨{ State.resetWith tinyB with lc := 3, marker := 3, pst := .wait, pleft := 1 }, _, rfl, rfl, rfl, rfl, rfl,
   by decide, by decide, rfl⟩

theorem witness_HpulseOperation : ((s0 ref).hrun = true ∧ (s0 ref).hirq = false) ∧
    ((pending ref 0 true).hrun = true ∧ (pending ref 0 true).hirq = true) ∧ State.reset.hrun = false := by decide

theorem witness_SpurOperation : (s0 ref).ien = true ∧ State.reset.ien = false := by decide

theorem witness_HclkOperation :
    ((s0 tiny).hrun = true ∧ (s0 tiny).hcnt + 1 ≠ (s0 tiny).cfg.hPeriod) ∧
    (∃ s : State, s.hrun = true ∧ s.hcnt = 3 ∧ s.hcnt + 1 = s.cfg.hPeriod ∧ s.hirq = false) ∧
    (∃ s : State, s.hrun = true ∧ s.hcnt = 3 ∧ s.hcnt + 1 = s.cfg.hPeriod ∧ s.hirq = true) ∧
    State.reset.hrun = false :=
  ⟨by decide, ⟨{ s0 tiny with hcnt := 3 }, by decide⟩, ⟨{ pending tiny 0 true with hcnt := 3 }, by decide⟩, rfl⟩

theorem witness_HsyncWaveform :
    ((s0 tiny).cfg.wf = true ∧ (s0 tiny).hrun = true ∧ (s0 tiny).hcnt = 0 ∧ (s0 tiny).hirq = false) ∧
    0 < (s0 tiny).cfg.hPeriod ∧ 3 < (s0 tiny).cfg.hPeriod := by decide

theorem witness_InterruptLife :
    (∃ t, exec .reset (s0 tiny) = .next t) ∧ (∃ t, exec .stop (s0 tiny) = .next t) ∧
    (∃ t, exec .start State.reset = .next t) ∧
    ((pending tiny 4 true).hrun = true ∧ ∃ t, exec .tick (pending tiny 4 true) = .next t) ∧
    ((s0 tiny).ien = true ∧ ∃ t, exec .spur (s0 tiny) = .next t) ∧
    (pulses .hpulse (s0 tiny) = true ∧ ∃ t, exec .hpulse (s0 tiny) = .next t) ∧
    (pulses .hclk { s0 tiny with hcnt := 3 } = true ∧ ∃ t, exec .hclk { s0 tiny with hcnt := 3 } = .next t) ∧
    (agentOf .pbegin = .main ∧ ∃ t, exec .pbegin (pacing tiny 2 .begin 2 0) = .next t) :=
  ⟨⟨_, rfl⟩, ⟨_, rfl⟩, ⟨_, rfl⟩, ⟨rfl, _, rfl⟩, ⟨rfl, _, rfl⟩, ⟨rfl, _, rfl⟩, ⟨rfl, _, rfl⟩, ⟨rfl, _, rfl⟩⟩

theorem witness_TicksNeverOutnumberRequests :
    hostFree [.tick, .hpulse, .spur, .tick] = true ∧
    ∃ t, execSeq [.tick, .hpulse, .spur, .tick] (pending tiny 4 true) = .next t := ⟨rfl, _, rfl⟩

theorem witness_TickOperation :
    ((pending tiny 0 true).ien = true ∧ (pending tiny 0 true).hirq = true ∧
      (pending tiny 0 true).lc < (pending tiny 0 true).cfg.vTotal) ∧
    (pending tiny 4 true).lc < (pending tiny 4 true).cfg.vTotal ∧
    ((pending tinyE 4 true).cfg.lcVisibility = .eventual ∧ (pending tinyE 4 true).lc < (pending tinyE 4 true).cfg.vTotal) ∧
    (s0 tiny).hirq = false ∧ State.reset.ien = false ∧
    ((pending tiny 5 true).ien = true ∧ (pending tiny 5 true).cfg.vTotal ≤ (pending tiny 5 true).lc) := by decide

theorem witness_PhasesPartitionFrame : ref.wf = true ∧ least.wf = true := by decide

theorem witness_SyncWindow :
    Inv (s0 tiny) ∧ (∃ u t, execSeq [.hpulse] (s0 tiny) = .next u ∧ exec .tick u = .next t ∧ t.vsync = false) ∧
    Inv (pending tiny 4 true) ∧ ∃ u t, execSeq [] (pending tiny 4 true) = .next u ∧ exec .tick u = .next t ∧ t.vsync = true :=
  ⟨inv_s0_tiny, ⟨_, _, rfl, rfl, rfl⟩, inv_pending_last, ⟨_, _, rfl, rfl, rfl⟩⟩

theorem witness_EdgeFormIsRangeForm : Inv (pending tiny 4 true) ∧ Inv (s0 tiny) := ⟨inv_pending_last, inv_s0_tiny⟩

theorem witness_LineCountsTicksModuloFrame :
    (pending tiny 4 true).lc < (pending tiny 4 true).cfg.vTotal ∧ hostFree [.tick, .rdlc, .hpulse, .tick] = true ∧
    ∃ t, execSeq [.tick, .rdlc, .hpulse, .tick] (pending tiny 4 true) = .next t := ⟨by decide, rfl, _, rfl⟩

theorem witness_FramePeriodicity :
    (s0 least).cfg.wf = true ∧ (s0 least).lc < (s0 least).cfg.vTotal ∧ hostFree (opLines 4) = true ∧
    (opLines 4).count .tick = (s0 least).cfg.vTotal ∧ (∃ t, execSeq (opLines 4) (s0 least) = .next t) ∧
    ((s0 least).vsync = false ↔ 1 ≤ (s0 least).lc ∧ (s0 least).lc ≤ (s0 least).cfg.vBpStart) :=
  ⟨by decide, by decide, by decide, by decide, ⟨_, rfl⟩, by decide⟩

theorem witness_LinesRunFromRunningState : Inv (s0 tiny) ∧ (s0 tiny).hrun = true ∧ (s0 tiny).hirq = false :=
  ⟨inv_s0_tiny, rfl, rfl⟩

/-- A schedule without end: a pulse, its handler, a pulse, its handler, ... -/
def lineForEver : Schedule := fun n => if n % 2 = 0 then .hpulse else .tick

theorem stateAt_lineForEver (n : Nat) :
    (stateAt lineForEver (s0 tiny) n).hrun = true ∧ (stateAt lineForEver (s0 tiny) n).ien = true ∧
    ((stateAt lineForEver (s0 tiny) n).hirq = true ↔ n % 2 = 1) ∧
    (stateAt lineForEver (s0 tiny) n).lc < 5 ∧ (stateAt lineForEver (s0 tiny) n).cfg = tiny := by
  induction n with
  | zero => decide
  | succ n ih =>
    obtain ⟨h1, h2, h3, h4, h5⟩ := ih
    by_cases hn : n % 2 = 0
    · have : exec .hpulse (stateAt lineForEver (s0 tiny) n) = .next (pulseBoundary (stateAt lineForEver (s0 tiny) n)) := by
        simp [exec, execHpulse, requires, h1]
      simp only [stateAt, lineForEver, hn, if_true, afterOp_of_next this, pulseBoundary_hrun, pulseBoundary_ien,
        pulseBoundary_hirq, pulseBoundary_lc, pulseBoundary_cfg]
      exact ⟨h1, h2, by simp; omega, h4, h5⟩
    · have hq : (stateAt lineForEver (s0 tiny) n).hirq = true := h3.mpr (by omega)
      have hv : (stateAt lineForEver (s0 tiny) n).lc < (stateAt lineForEver (s0 tiny) n).cfg.vTotal := by
        rw [h5]; exact h4
      have : exec .tick (stateAt lineForEver (s0 tiny) n) = .next (handlerBody (stateAt lineForEver (s0 tiny) n)) := by
        simp [exec, execTick, requires, h2, hq, hv]
      have hl : nextLine tiny (stateAt lineForEver (s0 tiny) n).lc < 5 :=
        nextLine_lt (c := tiny) (by exact h4)
      simp only [stateAt, lineForEver, hn, if_false, afterOp_of_next this]
      rw [handlerBody_frame]
      exact ⟨h1, h2, by simp; omega, by rw [h5]; exact hl, h5⟩

theorem pulses_lineForEver (n : Nat) : pulses (lineForEver n) (stateAt lineForEver (s0 tiny) n) = true ↔ n % 2 = 0 := by
  have h := (stateAt_lineForEver n).1
  have hl : lineForEver n = if n % 2 = 0 then .hpulse else .tick := rfl
  rw [pulses, h, hl]
  by_cases hn : n % 2 = 0 <;> simp [hn]

theorem witness_VsyncFallsForEver :
    Inv (s0 tiny) ∧ (s0 tiny).hrun = true ∧ (∀ n, agentOf (lineForEver n) ≠ .host) ∧
    GeneratorPulses lineForEver (s0 tiny) ∧ HandlerInTime lineForEver (s0 tiny) := by
  refine ⟨inv_s0_tiny, rfl, fun n => ?_, fun n _ => ?_, fun n m hnm _ hq hp => ?_⟩
  · unfold lineForEver; split <;> decide
  · exact ⟨2 * n, by omega, (pulses_lineForEver _).mpr (by omega)⟩
  · have hn := (stateAt_lineForEver n).2.2.1.mp hq
    have hm := (pulses_lineForEver m).mp hp
    have hs := stateAt_lineForEver n
    refine ⟨n, Nat.le_refl _, by omega,
      happens_iff.mpr ⟨by simp [lineForEver, hn], handlerBody (stateAt lineForEver (s0 tiny) n), ?_⟩⟩
    · rw [show lineForEver n = .tick by simp [lineForEver, hn]]
      simp [exec, execTick, requires, hs.2.1, hs.2.2.1.mpr hn, hs.2.2.2.2, show tiny.vTotal = 5 from rfl, hs.2.2.2.1]

theorem witness_ImmediateReadReturnsLine : (s0 ref).cfg.lcVisibility = .immediate := rfl

theorem witness_EventualReads :
    (s0 tinyE).cfg.lcVisibility = .eventual ∧ HistoryOk (s0 tinyE) ∧ FullInv (s0 tinyE) ∧
    hostFree [.hpulse, .tick, .rdlc] = true ∧ ∃ t, execSeq [.hpulse, .tick, .rdlc] (s0 tinyE) = .next t :=
  ⟨rfl, history_s0, full_s0, rfl, _, rfl⟩

theorem witness_PpollOperation :
    ((pacing ref 34 .idle 0 0).pst = .idle ∧ (rdLC (pacing ref 34 .idle 0 0)).1 = 34) ∧
    ((pacing ref 33 .idle 0 0).pst = .idle ∧ (rdLC (pacing ref 33 .idle 0 0)).1 ≠ 34 ∧
      (pacing ref 33 .idle 0 0).cfg.lcVisibility = .immediate) ∧
    (pacing ref 34 .wait 1 33).pst ≠ .idle := by decide

theorem witness_PbeginOperation : (pacing ref 34 .begin 480 0).pst = .begin ∧
    (pacing ref 34 .begin 480 0).cfg.lcVisibility = .immediate ∧ State.reset.pst ≠ .begin := by decide

theorem witness_PdriveOperation : (pacing ref 34 .drive 480 34).pst = .drive ∧ State.reset.pst ≠ .drive := by decide

theorem witness_PblankOperation :
    ((pacing ref 34 .drive 480 34).pst = .drive ∧ ∃ t, exec .pblank (pacing ref 34 .drive 480 34) = .next t ∧ t.pst = .wait) ∧
    (pacing ref 34 .begin 480 34).pst ≠ .drive := ⟨⟨rfl, _, rfl, rfl⟩, by decide⟩

theorem witness_PwaitOperation :
    ((pacing tinyB 3 .wait 1 2).pst = .wait ∧ (rdLC (pacing tinyB 3 .wait 1 2)).1 ≠ 2 ∧ 1 ≤ (pacing tinyB 3 .wait 1 2).pleft) ∧
    (∃ s : State, s.pst = .wait ∧ (rdLC s).1 = s.marker ∧ s.cfg.spinBound = some 2 ∧ 2 ≤ s.spin) ∧
    (∃ s : State, s.pst = .wait ∧ (rdLC s).1 = s.marker ∧ s.spin = 1 ∧ ∀ n, s.cfg.spinBound = some n → s.spin < n) ∧
    (∃ s : State, s.pst = .wait ∧ (rdLC s).1 = s.marker ∧ s.cfg.spinBound = none) ∧
    State.reset.pst ≠ .wait := by
  refine ⟨by decide, ⟨{ pacing tinyB 2 .wait 2 2 with spin := 2 }, by decide⟩,
    ⟨{ pacing tinyB 2 .wait 2 2 with spin := 1 }, rfl, rfl, rfl, fun n h => ?_⟩,
    ⟨pacing tiny 2 .wait 2 2, by decide⟩, by decide⟩
  cases (show n = 2 from (Option.some.inj h).symm)
  decide

theorem witness_PacerTransitionRelation :
    (∃ t, exec .ppoll (pacing tiny 1 .idle 0 0) = .next t) ∧ (∃ t, exec .ppoll (pacing tiny 2 .idle 0 0) = .next t) ∧
    (∃ t, exec .pbegin (pacing tiny 2 .begin 2 0) = .next t) ∧
    (∃ t, exec (.pdrive true true false) (pacing tiny 2 .drive 2 2) = .next t) ∧
    (∃ t, exec .pblank (pacing tiny 2 .drive 2 2) = .next t) ∧
    (∃ t, exec .pwait (pacing tiny 2 .wait 2 2) = .next t) ∧
    (∃ t, exec .pwait { pacing tinyB 2 .wait 2 2 with spin := 2 } = .next t ∧ t.stuck = true) ∧
    (∃ t, exec .pwait (pacing tiny 3 .wait 2 2) = .next t ∧ t.pst = .begin) ∧
    (∃ t, exec .pwait (pacing tiny 4 .wait 1 3) = .next t ∧ t.pst = .idle) ∧
    (∃ t, exec .rdlc (pacing tiny 4 .wait 1 3) = .next t) ∧
    opGuard .pwait (s0 tiny) = false ∧
    ∃ t, exec .hpulse (pacing tiny 2 .drive 2 2) = .next t :=
  ⟨⟨_, rfl⟩, ⟨_, rfl⟩, ⟨_, rfl⟩, ⟨_, rfl⟩, ⟨_, rfl⟩, ⟨_, rfl⟩, ⟨_, rfl, rfl⟩, ⟨_, rfl, rfl⟩, ⟨_, rfl, rfl⟩, ⟨_, rfl⟩, rfl,
   ⟨_, rfl⟩⟩

theorem witness_OverrunEndsWaitAtOnce :
    Inv (pacing tiny 2 .drive 2 2) ∧ (pacing tiny 2 .drive 2 2).cfg.lcVisibility = .immediate ∧
    hostFree [.pdrive true false false, .hpulse, .tick] = true ∧
    (∀ i ∈ [Instr.pdrive true false false, .hpulse, .tick], i ≠ .ppoll ∧ i ≠ .pbegin ∧ i ≠ .pblank ∧ i ≠ .pwait) ∧
    (∃ u, execSeq [.pdrive true false false, .hpulse, .tick] (pacing tiny 2 .drive 2 2) = .next u) ∧
    (List.count .tick [Instr.pdrive true false false, .hpulse, .tick] % 5 ≠ 0) ∧
    (∃ u, execSeq (opLines 5) (pacing tiny 2 .drive 2 2) = .next u) ∧ (opLines 5).count .tick % 5 = 0 :=
  ⟨inv_drive, rfl, rfl, by decide, ⟨_, rfl⟩, by decide, ⟨_, rfl⟩, by decide⟩

theorem witness_SpinBoundDetectsStall :
    ((pacing tinyB 2 .wait 2 2).pst = .wait ∧ (pacing tinyB 2 .wait 2 2).lc = (pacing tinyB 2 .wait 2 2).marker ∧
      (pacing tinyB 2 .wait 2 2).spin = 0 ∧ (pacing tinyB 2 .wait 2 2).cfg.spinBound = some 2 ∧ 2 ≤ 2 ∧ 2 < 3) ∧
    ((pacing tiny 2 .wait 2 2).pst = .wait ∧ (pacing tiny 2 .wait 2 2).lc = (pacing tiny 2 .wait 2 2).marker ∧
      (pacing tiny 2 .wait 2 2).cfg.spinBound = none) := by decide

theorem witness_PlineDrawsAndBlanks : (pacing tiny 2 .begin 2 0).pst = .begin := rfl

/-- The schedule of a frame of `least` with the pacer at work: PR2 in small. -/
def frameWithPacer : List Instr :=
  [.ppoll] ++ opLine ++ [.ppoll] ++ opLine ++ [.ppoll] ++ opPline 1 0 0 ++ [.pwait] ++ opLine ++ [.pwait, .ppoll] ++ opLine

theorem witness_DrawsOnlyInActivePhase :
    RunningStart (s0 least) ∧ (s0 least).cfg.lcVisibility = .immediate ∧ hostFree frameWithPacer = true ∧
    (∃ t, execSeq frameWithPacer (s0 least) = .next t ∧ drawMarkers t.log = [2]) ∧
    nov (s0 least) frameWithPacer = true :=
  ⟨start_s0 _ (by decide), rfl, by decide, ⟨_, rfl, by decide⟩, by decide⟩

theorem witness_EveryFrameDrawsItsLines :
    RunningStart (s0 least) ∧ nov (s0 least) frameWithPacer = true ∧
    frameWithPacer.count .tick = 1 * (s0 least).cfg.vTotal := ⟨start_s0 _ (by decide), by decide, by decide⟩

theorem witness_GuardTable :
    opGuard .tick (s0 tiny) = false ∧ (Inv (pending tiny 4 true) ∧ opGuard .tick (pending tiny 4 true) = true) ∧
    (∃ t, exec .tick (pending tiny 4 true) = .next t) ∧
    ((pacing tiny 3 .wait 0 2).pst = .wait ∧ (rdLC (pacing tiny 3 .wait 0 2)).1 ≠ 2 ∧ (pacing tiny 3 .wait 0 2).pleft = 0) ∧
    (opGuard .pblank (pacing tiny 2 .drive 2 2) = true ∧ opGuard (.pdrive true false true) (pacing tiny 2 .drive 2 2) = true) :=
  ⟨rfl, ⟨inv_pending_last, rfl⟩, ⟨_, rfl⟩, by decide, rfl, rfl⟩

theorem witness_InvariantsHoldAtReset :
    ref.wf = true ∧ tinyE.wf = true ∧ ∃ t, (s0 tiny).cfg.wf = true ∧ exec .reset (s0 tiny) = .next t :=
  ⟨by decide, by decide, _, by decide, rfl⟩

theorem witness_StepKeepsInvariants :
    ∃ s t : State, Inv s ∧ s.sched = [0x60#8] ∧ step s = .next t :=
  ⟨{ pending tiny 4 true with sched := [0x60#8] }, _,
   ⟨by decide, by decide, by decide, by decide, by decide, by decide, by decide, by decide, by decide⟩, rfl, rfl⟩

theorem witness_StepKeepsHistoryAndWidths :
    ∃ s t : State, FullInv s ∧ s.cfg.lcVisibility = .eventual ∧ step s = .next t :=
  ⟨{ s0 tinyE with sched := [0x40#8] }, _,
   ⟨⟨by decide, by decide, by decide, by decide, by decide, by decide, by decide, by decide, by decide⟩,
    fun _ => ⟨rfl, rfl, by decide, by decide, by decide⟩, ⟨by decide, by decide, by decide⟩⟩, rfl, rfl⟩

theorem witness_AccessRights :
    ((∃ t, exec .tick (pending tiny 4 true) = .next t) ∧ mayWrite (agentOf .tick) .colour = false) ∧
    (∃ t, exec .stop (s0 tiny) = .next t) ∧ (∃ t, exec .hpulse (s0 tiny) = .next t) ∧
    (∃ t, exec .spur (s0 tiny) = .next t) ∧
    ∃ t, exec .pwait { pacing tinyB 2 .wait 2 2 with spin := 2 } = .next t ∧ t.stuck = true :=
  ⟨⟨⟨_, rfl⟩, rfl⟩, ⟨_, rfl⟩, ⟨_, rfl⟩, ⟨_, rfl⟩, ⟨_, rfl, rfl⟩⟩

theorem witness_UnreadItemsHaveNoInfluence :
    (mayRead (agentOf .tick) .pacer = false ∧ mayWrite (agentOf .tick) .pacer = false) ∧
    (mayRead (agentOf .pwait) .hirq = false ∧ mayWrite (agentOf .pwait) .hirq = false) ∧
    mayRead (agentOf .spur) .lc = false ∧ mayWrite (agentOf .spur) .lc = false := by decide

theorem witness_SignalIndependentOfPacer :
    ∃ t, execSeq [.ppoll, .hpulse, .tick, .rdlc] (s0 tiny) = .next t := ⟨_, rfl⟩

theorem witness_PendingTickNotHeldBack :
    ∃ s t : State, s.ien = true ∧ s.hirq = true ∧ s.lc < s.cfg.vTotal ∧
      (∀ i ∈ [Instr.pdrive true true true, .pblank], agentOf i = .main) ∧
      execSeq [.pdrive true true true, .pblank] s = .next t :=
  ⟨{ pacing tiny 2 .drive 2 2 with hirq := true }, _, rfl, rfl, by decide, by decide, rfl⟩

theorem witness_StuckRecordsAndStopsNothing :
    (∃ s t : State, exec .pwait s = .next t ∧ s.stuck = false ∧ t.stuck = true) ∧
    ∃ s t : State, exec .start s = .next t ∧ s.stuck = true ∧ Instr.start ≠ .reset :=
  ⟨⟨{ pacing tinyB 2 .wait 2 2 with spin := 2 }, _, rfl, rfl, rfl⟩,
   ⟨{ State.resetWith ref with stuck := true }, _, rfl, rfl, by decide⟩⟩

theorem witness_MarkerUnreadBeforeCapture :
    (pacing tiny 2 .idle 0 9).pst = .idle ∧
    ∃ t, execSeq [.ppoll, .pbegin] (pacing tiny 2 .idle 0 9) = .next t ∧ t.pst = .drive := ⟨rfl, _, rfl, rfl⟩

theorem witness_LogIsWrittenNeverRead :
    (∃ t, exec .pbegin (pacing tiny 2 .begin 2 0) = .next t ∧ t.log = [.draw 2]) ∧
    ∃ t, exec .reset { s0 tiny with log := [.pulse] } = .next t := ⟨⟨_, rfl, rfl⟩, _, rfl⟩

theorem witness_ConfigurationNeverChanges :
    (∃ s t : State, s.sched = [0x10#8] ∧ step s = .next t) ∧ ∃ t, execSeq opInit (s0 tiny) = .next t :=
  ⟨⟨{ s0 tiny with sched := [0x10#8] }, _, rfl, rfl⟩, _, rfl⟩

theorem witness_TickLevelRefinesLineLevel :
    ∃ t, execSeq [.hclk, .hclk, .tick, .hclk] { s0 tiny with hcnt := 2 } = .next t ∧
      lineImage { s0 tiny with hcnt := 2 } [.hclk, .hclk, .tick, .hclk] = [.hpulse, .tick] := ⟨_, rfl, by decide⟩

theorem witness_LineLevelIsImageOfTickLevel :
    Inv (s0 tiny) ∧ Instr.hclk ∉ opLine ∧ ∃ t, execSeq opLine (s0 tiny) = .next t := ⟨inv_s0_tiny, by decide, _, rfl⟩

end Sys2Proof.Tests
end

section
/-! PROOF. STUCK (spec/10_state.md R27, spec/60_exceptions.md R157): what each operation can do to the bit, and that no
operation but RESET reads it or behaves differently for it. -/

namespace Sys2Proof.Machine

/-! ### What an operation can do to STUCK -/

@[simp] theorem rdLC_snd_stuck (s : State) : (rdLC s).2.stuck = s.stuck := by rw [rdLC_frame]
@[simp] theorem restartHistory_stuck (s : State) : (restartHistory s).stuck = s.stuck := by rw [restartHistory_frame]
@[simp] theorem handlerBody_stuck (s : State) : (handlerBody s).stuck = s.stuck := by rw [handlerBody_frame]

/-- RESET clears STUCK whatever it was (R121). -/
theorem execReset_stuck {s t : State} (h : exec .reset s = .next t) : t.stuck = false := by
  rw [execReset_next h]; simp

/-- PWAIT sets STUCK where its bound is reached, and keeps it otherwise (R106). -/
theorem execPwait_stuck {s t : State} (h : exec .pwait s = .next t) :
    t.stuck = s.stuck ∨ s.pst = .wait ∧ (rdLC s).1 = s.marker ∧ s.atSpinBound = true ∧ t.stuck = true := by
  obtain ⟨hw, ⟨-, -, rfl⟩ | ⟨hm, hb, rfl⟩ | ⟨-, -, rfl⟩⟩ := execPwait_next h
  · left; simp
  · exact .inr ⟨hw, hm, hb, rfl⟩
  · left; simp

/-- Every operation but RESET and PWAIT keeps STUCK. -/
theorem exec_stuck_eq {i : Instr} {s t : State} (hr : i ≠ .reset) (hp : i ≠ .pwait) (h : exec i s = .next t) :
    t.stuck = s.stuck := by
  cases i with
  | reset => exact absurd rfl hr
  | pwait => exact absurd rfl hp
  | start => obtain ⟨-, -, rfl⟩ := execStart_next h; simp
  | stop => obtain ⟨-, rfl⟩ := execStop_next h; rfl
  | hpulse => obtain ⟨-, rfl⟩ := execHpulse_next h; rfl
  | spur => obtain ⟨-, rfl⟩ := execSpur_next h; rfl
  | hclk => obtain ⟨-, ⟨-, rfl⟩ | ⟨-, rfl⟩⟩ := execHclk_next h <;> rfl
  | tick => obtain ⟨-, -, -, rfl⟩ := execTick_next h; simp
  | rdlc => rw [execRdlc_next h]; simp
  | ppoll => obtain ⟨-, ⟨-, rfl⟩ | ⟨-, rfl⟩⟩ := execPpoll_next h <;> simp
  | pbegin => obtain ⟨-, rfl⟩ := execPbegin_next h; simp
  | pdrive => obtain ⟨-, rfl⟩ := execPdrive_next h; rfl
  | pblank => obtain ⟨-, rfl⟩ := execPblank_next h; rfl

/-- STUCK is set by PWAIT at the spin bound, and by nothing else (R27). -/
theorem stuck_set_only_at_bound {i : Instr} {s t : State} (h : exec i s = .next t) (hs : s.stuck = false)
    (ht : t.stuck = true) : i = .pwait ∧ s.pst = .wait ∧ (rdLC s).1 = s.marker ∧ s.atSpinBound = true := by
  by_cases hr : i = .reset
  · subst hr; simp [execReset_stuck h] at ht
  by_cases hp : i = .pwait
  · subst hp
    obtain hk | ⟨hw, hm, hb, -⟩ := execPwait_stuck h
    · simp [hk, hs] at ht
    · exact ⟨rfl, hw, hm, hb⟩
  · simp [exec_stuck_eq hr hp h, hs] at ht

/-! ### No operation but RESET does otherwise with STUCK set -/

/-- The state with STUCK set and all else as it is. -/
def markStuck (s : State) : State := { s with stuck := true }

/-- A state with STUCK set is marked already. -/
theorem markStuck_of_stuck {s : State} (h : s.stuck = true) : markStuck s = s := by
  cases s; cases h; rfl

theorem mapNext_next (f : State → State) (t : State) : mapNext f (.next t) = .next (f t) := rfl

theorem mapNext_refused (f : State → State) (why : Refusal) : mapNext f (.refused why) = .refused why := rfl

/-- A change of the next state goes through a guard. -/
theorem mapNext_requires (f : State → State) (p : Bool) (i : Instr) (k : Result) :
    mapNext f (requires p i k) = requires p i (mapNext f k) := by
  cases p <;> rfl

theorem rdLC_markStuck (s : State) : rdLC (markStuck s) = ((rdLC s).1, markStuck (rdLC s).2) := by
  cases h : s.cfg.lcVisibility with
  | immediate => rw [rdLC_of_immediate h, rdLC_of_immediate (by exact h)]; rfl
  | eventual => rw [rdLC_of_eventual h, rdLC_of_eventual (by exact h)]; rfl

theorem restartHistory_markStuck (s : State) : restartHistory (markStuck s) = markStuck (restartHistory s) := by
  cases h : s.cfg.lcVisibility with
  | immediate => rw [restartHistory_of_immediate h, restartHistory_of_immediate (by exact h)]
  | eventual => rw [restartHistory_of_eventual h, restartHistory_of_eventual (by exact h)]; rfl

theorem writeLC_markStuck (v : Nat) (s : State) : writeLC v (markStuck s) = markStuck (writeLC v s) := by
  cases h : s.cfg.lcVisibility with
  | immediate => rw [writeLC_of_immediate h, writeLC_of_immediate (by exact h)]; rfl
  | eventual => rw [writeLC_of_eventual h, writeLC_of_eventual (by exact h)]; rfl

theorem updateVsync_markStuck (k : Nat) (s : State) : updateVsync k (markStuck s) = markStuck (updateVsync k s) := by
  unfold updateVsync
  rw [apply_ite markStuck, apply_ite markStuck]
  rfl

theorem handlerBody_markStuck (s : State) : handlerBody (markStuck s) = markStuck (handlerBody s) := by
  calc handlerBody (markStuck s)
      = advanceLine s.lc (updateVsync s.lc (markStuck (acknowledge (rebaseline s)))) := rfl
    _ = advanceLine s.lc (markStuck (updateVsync s.lc (acknowledge (rebaseline s)))) := by rw [updateVsync_markStuck]
    _ = markStuck (handlerBody s) := writeLC_markStuck _ _

/-- With STUCK set every operation but RESET does what it does without, the bit kept (R157). -/
theorem exec_markStuck {i : Instr} (hr : i ≠ .reset) (s : State) :
    exec i (markStuck s) = mapNext markStuck (exec i s) := by
  cases i with
  | reset => exact absurd rfl hr
  | start =>
    simp only [exec, execStart, mapNext_requires, mapNext_next, ← restartHistory_markStuck]
    rfl
  | stop => exact (mapNext_requires markStuck _ _ (.next (setRunning false (acknowledge s)))).symm
  | hpulse => exact (mapNext_requires markStuck _ _ (.next (pulseBoundary s))).symm
  | spur => exact (mapNext_requires markStuck _ _ (.next (raiseSpurious s))).symm
  | hclk =>
    simp only [exec, execHclk, mapNext_requires, mapNext_next, apply_ite markStuck]
    rfl
  | tick =>
    simp only [exec, execTick, mapNext_requires, apply_ite (mapNext markStuck), mapNext_next, mapNext_refused,
      ← handlerBody_markStuck]
    rfl
  | rdlc =>
    simp only [exec, execRdlc, mapNext_next, rdLC_markStuck]
    rfl
  | ppoll =>
    simp only [exec, execPpoll, mapNext_requires, apply_ite (mapNext markStuck), mapNext_next, rdLC_markStuck]
    rfl
  | pbegin =>
    simp only [exec, execPbegin, mapNext_requires, mapNext_next, rdLC_markStuck]
    rfl
  | pdrive r g b => exact (mapNext_requires markStuck _ _ (.next (setColour r g b s))).symm
  | pblank =>
    exact (mapNext_requires markStuck _ _ (.next { setColour false false false s with spin := 0, pst := .wait })).symm
  | pwait =>
    simp only [exec, execPwait, mapNext_requires, apply_ite (mapNext markStuck), mapNext_next, mapNext_refused,
      rdLC_markStuck]
    rfl

/-- No operation but RESET clears STUCK (R27): a stuck state is its own marked form, so its next state is marked too. -/
theorem stuck_kept {i : Instr} {s t : State} (h : exec i s = .next t) (hs : s.stuck = true) (hr : i ≠ .reset) :
    t.stuck = true := by
  have hm := exec_markStuck hr s
  rw [markStuck_of_stuck hs, h] at hm
  rw [Host.Outcome.next.inj hm]
  rfl

/-- Settles O46: what sets STUCK by inversion of each operation, that it is kept and stops nothing because every operation
but RESET commutes with setting it. -/
theorem stuckRecordsAndStopsNothing : Obligations.StuckRecordsAndStopsNothing := by
  refine ⟨fun i s t h hs ht => ?_, fun i s t => stuck_kept, fun i s hr => exec_markStuck hr s⟩
  obtain ⟨hi, hw, hm, hb⟩ := stuck_set_only_at_bound h hs ht
  exact ⟨hi, hw, hm, atSpinBound_iff.mp hb⟩

end Sys2Proof.Machine
end

section
/-! PROOF. The illegal bytes (spec/30_encoding.md R65): the three ways to decode a byte, what each refuses, and the step
that meets an illegal byte. -/

namespace Sys2Proof.Machine

/-! ### The fields of a byte, as numbers (R60) -/

theorem opcOf_toNat (b : Byte) : (opcOf b).toNat = b.toNat / 16 := by
  have hb := b.isLt
  simp only [opcOf, BitVec.extractLsb'_toNat, Nat.shiftRight_eq_div_pow]
  omega

theorem argOf_toNat (b : Byte) : (argOf b).toNat = b.toNat % 16 := by
  simp [argOf]

/-! ### What each format refuses (R61) -/

theorem decodeZ_eq_error_iff {i : Instr} {arg : Nibble} {e : DecodeError} :
    decodeZ i arg = .error e ↔ e = .argNotZero ∧ arg.toNat ≠ 0 := by
  by_cases h : arg = 0#4
  · simp [decodeZ, h]
  · have hn : arg.toNat ≠ 0 := fun h0 => h (BitVec.eq_of_toNat_eq h0)
    simp [decodeZ, h, hn, eq_comm]

/-- The top bit of an argument says whether it is 8 or more. -/
theorem getLsbD_three_iff (arg : Nibble) : arg.getLsbD 3 = true ↔ 8 ≤ arg.toNat := by
  rw [← BitVec.msb_eq_getLsbD_last arg, BitVec.msb_eq_decide]
  simp

theorem decodeP_eq_error_iff {f : Bool → Bool → Bool → Instr} {arg : Nibble} {e : DecodeError} :
    decodeP f arg = .error e ↔ e = .argBit3Set ∧ 8 ≤ arg.toNat := by
  rw [← getLsbD_three_iff]
  unfold decodeP
  split
  next h => rw [Except.error.injEq, eq_comm, and_iff_left h]
  next h => exact iff_of_false nofun fun he => h he.2

/-! ### What the decoder refuses (R65) -/

/-- A byte's operation code is reserved, or of format Z, or PDRIVE's (R62). -/
theorem decode_cases (b : Byte) :
    ((b.toNat / 16 = 0 ∨ b.toNat / 16 = 14 ∨ b.toNat / 16 = 15) ∧ decode b = .error .reservedOpc) ∨
    ((1 ≤ b.toNat / 16 ∧ b.toNat / 16 ≤ 13 ∧ b.toNat / 16 ≠ 10) ∧ ∃ i, decode b = decodeZ i (argOf b)) ∨
    (b.toNat / 16 = 10 ∧ decode b = decodeP .pdrive (argOf b)) := by
  have hlt := (opcOf b).isLt
  rw [← opcOf_toNat]
  unfold decode
  split
  -- The tenth row is PDRIVE's, the fourteenth is the decoder's default.
  case h_10 h => exact .inr (.inr ⟨h, rfl⟩)
  case h_14 => exact .inl ⟨by simp only [imp_false] at *; omega, rfl⟩
  all_goals exact .inr (.inl ⟨by omega, _, rfl⟩)

/-- The illegal bytes, each with the one reason the decoder gives. -/
theorem decode_eq_error_iff {b : Byte} {e : DecodeError} :
    decode b = .error e ↔
      (e = .reservedOpc ∧ (b.toNat / 16 = 0 ∨ b.toNat / 16 = 14 ∨ b.toNat / 16 = 15)) ∨
      (e = .argNotZero ∧ 1 ≤ b.toNat / 16 ∧ b.toNat / 16 ≤ 13 ∧ b.toNat / 16 ≠ 10 ∧ b.toNat % 16 ≠ 0) ∨
      (e = .argBit3Set ∧ b.toNat / 16 = 10 ∧ 8 ≤ b.toNat % 16) := by
  obtain ⟨ho, hd⟩ | ⟨ho, i, hd⟩ | ⟨ho, hd⟩ := decode_cases b
  · rw [hd, Except.error.injEq, eq_comm]
    cases e <;> simp <;> omega
  · rw [hd, decodeZ_eq_error_iff, argOf_toNat]
    cases e <;> simp <;> omega
  · rw [hd, decodeP_eq_error_iff, argOf_toNat]
    cases e <;> simp <;> omega

/-- The legal bytes: an operation of format Z with argument 0, or a PDRIVE with one of the eight colours. -/
theorem legal_words :
    (List.range 256).filter (fun n => (decodeTableWord 8 n).isSome) =
      [0x10, 0x20, 0x30, 0x40, 0x50, 0x60, 0x70, 0x80, 0x90, 0xA0, 0xA1, 0xA2, 0xA3, 0xA4, 0xA5, 0xA6, 0xA7,
       0xB0, 0xC0, 0xD0] := by decide

/-- A step that meets an illegal byte refuses it, with the byte and the reason. -/
theorem step_of_decode_error {s : State} {b : Byte} {bs : List Byte} {why : DecodeError} (hs : s.sched = b :: bs)
    (hd : decode b = .error why) : step s = .refused (.invalidByte b why) := by
  simp [step, stepBody, nextByte, hs, hd]

/-- Settles O2: the reasons by the byte's format, the count from the list of the legal bytes. -/
theorem illegalBytesRefused : Obligations.IllegalBytesRefused :=
  ⟨fun b => by simp [decode_eq_error_iff], fun b => by simp [decode_eq_error_iff],
   fun b => by simp [decode_eq_error_iff], congrArg List.length legal_words, fun _ _ _ _ => step_of_decode_error⟩

end Sys2Proof.Machine
end

section
/-! PROOF. The four phases partition the frame (spec/40_vertical_state_machine.md R81): where each interval begins and
ends, and that `phase` is membership in them. -/

namespace Sys2Proof.Machine

/-- The first line of a phase, as R81 writes the intervals. -/
def phaseStart (c : Cfg) : Phase → Nat
  | .sync => 0
  | .backPorch => c.vBpStart
  | .active => c.vActiveStart
  | .frontPorch => c.vFpStart

/-- The line after a phase's last. -/
def phaseEnd (c : Cfg) : Phase → Nat
  | .sync => c.vBpStart
  | .backPorch => c.vActiveStart
  | .active => c.vFpStart
  | .frontPorch => c.vTotal

/-- Every interval has a line (R5, R81). -/
theorem phaseStart_lt_phaseEnd {c : Cfg} (h : c.wf = true) (p : Phase) : phaseStart c p < phaseEnd c p := by
  obtain ⟨⟨hbp, hact, hfp, htot⟩, -⟩ := wf_iff.mp h
  cases p with
  | sync => exact hbp
  | backPorch => exact hact
  | active => exact hfp
  | frontPorch => exact htot

/-- What `phase` answers, for any configuration: a line has the phase of an interval it lies in, or none from
`V_TOTAL` up. -/
theorem phase_cases (c : Cfg) (k : Nat) :
    (∃ p, phase c k = some p ∧ phaseStart c p ≤ k ∧ k < phaseEnd c p) ∨
    (phase c k = none ∧ c.vTotal ≤ k) := by
  rw [phase]
  split
  next hbp => exact .inl ⟨.sync, rfl, Nat.zero_le k, hbp⟩
  next hbp =>
  split
  next hact => exact .inl ⟨.backPorch, rfl, Nat.le_of_not_lt hbp, hact⟩
  next hact =>
  split
  next hfp => exact .inl ⟨.active, rfl, Nat.le_of_not_lt hact, hfp⟩
  next hfp =>
  split
  next htot => exact .inl ⟨.frontPorch, rfl, Nat.le_of_not_lt hfp, htot⟩
  next htot => exact .inr ⟨rfl, Nat.le_of_not_lt htot⟩

/-- No interval reaches past the frame. -/
theorem phaseEnd_le_vTotal {c : Cfg} (h : c.wf = true) (p : Phase) : phaseEnd c p ≤ c.vTotal := by
  obtain ⟨⟨-, hact, hfp, htot⟩, -⟩ := wf_iff.mp h
  cases p <;> simp only [phaseEnd] <;> omega

/-- A line of a phase's interval has that phase: the thresholds before the interval are passed. -/
theorem phase_of_mem_interval {c : Cfg} (h : c.wf = true) {p : Phase} {k : Nat} (hs : phaseStart c p ≤ k)
    (he : k < phaseEnd c p) : phase c k = some p := by
  obtain ⟨⟨-, hact, hfp, -⟩, -⟩ := wf_iff.mp h
  cases p with simp only [phaseStart, phaseEnd] at hs he
  | sync => rw [phase, if_pos he]
  | backPorch => rw [phase, if_neg (by omega), if_pos he]
  | active => rw [phase, if_neg (by omega), if_neg (by omega), if_pos he]
  | frontPorch => rw [phase, if_neg (by omega), if_neg (by omega), if_neg (by omega), if_pos he]

/-- A line has a phase exactly when it lies in the phase's interval. -/
theorem phase_eq_some_iff {c : Cfg} (h : c.wf = true) {p : Phase} {k : Nat} :
    phase c k = some p ↔ phaseStart c p ≤ k ∧ k < phaseEnd c p := by
  refine ⟨fun hp => ?_, fun hk => phase_of_mem_interval h hk.1 hk.2⟩
  obtain ⟨q, hq, hk⟩ | ⟨hn, -⟩ := phase_cases c k
  · obtain rfl : q = p := Option.some.inj (hq.symm.trans hp)
    exact hk
  · cases hn.symm.trans hp

/-- A line has no phase exactly when it is past the frame. -/
theorem phase_eq_none_iff {c : Cfg} (h : c.wf = true) {k : Nat} : phase c k = none ↔ c.vTotal ≤ k := by
  obtain ⟨q, hq, -, hk⟩ | ⟨hn, hk⟩ := phase_cases c k
  · have hend := phaseEnd_le_vTotal h q
    exact iff_of_false (by simp [hq]) (by omega)
  · exact iff_of_true hn hk

/-- Settles O17: each phase is its interval and the intervals end inside the frame; the first line of an interval is its
witness. -/
theorem phasesPartitionFrame : Obligations.PhasesPartitionFrame := by
  intro c h
  refine ⟨fun k => (phase_eq_some_iff h).trans (and_iff_right (Nat.zero_le k)), fun k => phase_eq_some_iff h,
    fun k => phase_eq_some_iff h, fun k => phase_eq_some_iff h, fun k => phase_eq_none_iff h, fun p => ?_⟩
  have hne := phaseStart_lt_phaseEnd h p
  exact ⟨phaseStart c p, Nat.lt_of_lt_of_le hne (phaseEnd_le_vTotal h p),
    (phase_eq_some_iff h).mpr ⟨Nat.le_refl _, hne⟩⟩

end Sys2Proof.Machine
end

section
/-! PROOF. The pacer's operations (spec/41_pixel_pacer.md R102 to R106): what each branch of an operation answers where its
guard holds, and that PBLANK is the only way from DRIVE to WAIT. -/

namespace Sys2Proof.Machine

/-! ### The branches, each with its guard -/

/-- PPOLL on the entry line starts a burst (R102). -/
theorem execPpoll_hit {s : State} (hp : s.pst = .idle) (hv : (rdLC s).1 = s.cfg.vActiveStart) :
    exec .ppoll s = .next { (rdLC s).2 with pleft := s.cfg.vActiveCount, pst := .begin } :=
  (requires_true (beq_iff_eq.mpr hp)).trans (if_pos hv)

/-- PPOLL on any other line is its read and no more (R102). -/
theorem execPpoll_miss {s : State} (hp : s.pst = .idle) (hv : (rdLC s).1 ≠ s.cfg.vActiveStart) :
    exec .ppoll s = .next (rdLC s).2 :=
  (requires_true (beq_iff_eq.mpr hp)).trans (if_neg hv)

theorem execPbegin_of_begin {s : State} (hp : s.pst = .begin) :
    exec .pbegin s = .next (State.logged [.draw (rdLC s).1] { (rdLC s).2 with marker := (rdLC s).1, pst := .drive }) :=
  requires_true (beq_iff_eq.mpr hp)

theorem execPdrive_of_drive {s : State} (r g b : Bool) (hp : s.pst = .drive) :
    exec (.pdrive r g b) s = .next (setColour r g b s) :=
  requires_true (beq_iff_eq.mpr hp)

theorem execPblank_of_drive {s : State} (hp : s.pst = .drive) :
    exec .pblank s = .next { setColour false false false s with spin := 0, pst := .wait } :=
  requires_true (beq_iff_eq.mpr hp)

/-- PWAIT on another line than the marker's ends the wait (R106). -/
theorem execPwait_ends {s : State} (hp : s.pst = .wait) (hm : (rdLC s).1 ≠ s.marker) (hl : s.pleft ≠ 0) :
    exec .pwait s = .next (finishLine (rdLC s).2) :=
  (requires_true (beq_iff_eq.mpr hp)).trans ((if_neg hm).trans (if_neg hl))

/-- PWAIT on the marker's line, at the spin bound, sets STUCK (R106). -/
theorem execPwait_bound {s : State} (hp : s.pst = .wait) (hm : (rdLC s).1 = s.marker) (hb : s.atSpinBound = true) :
    exec .pwait s = .next { (rdLC s).2 with stuck := true } :=
  (requires_true (beq_iff_eq.mpr hp)).trans ((if_pos hm).trans (if_pos hb))

/-- PWAIT on the marker's line, below the spin bound, spins (R106). -/
theorem execPwait_spins {s : State} (hp : s.pst = .wait) (hm : (rdLC s).1 = s.marker) (hb : s.atSpinBound = false) :
    exec .pwait s = .next { (rdLC s).2 with spin := s.spin + 1 } :=
  (requires_true (beq_iff_eq.mpr hp)).trans ((if_pos hm).trans (if_neg (Bool.eq_false_iff.mp hb)))

theorem atSpinBound_eq_false_iff {s : State} :
    s.atSpinBound = false ↔ ∀ n, s.cfg.spinBound = some n → s.spin < n := by
  rw [← Bool.not_eq_true, atSpinBound_iff]
  simp

/-- The line that ends a wait: PLEFT down by one, to IDLE with the last line (R106). -/
theorem finishLine_rdLC {s : State} (hl : 1 ≤ s.pleft) :
    finishLine (rdLC s).2 = { s with
      pleft := s.pleft - 1, pst := if s.pleft = 1 then .idle else .begin,
      rseq := (rdLC s).2.rseq, freeIdx := (rdLC s).2.freeIdx } := by
  have hlast : s.pleft - 1 = 0 ↔ s.pleft = 1 := by omega
  rw [rdLC_frame]
  simp only [finishLine, hlast]

/-- The eight bytes of PDRIVE: R is bit 2, G bit 1, B bit 0 (R61). -/
theorem encode_pdrive (r g b : Bool) :
    encode (.pdrive r g b) = BitVec.ofNat 8 (0xA0 + 4 * r.toNat + 2 * g.toNat + b.toNat) := by
  cases r <;> cases g <;> cases b <;> rfl

/-! ### What can move PST -/

@[simp] theorem rdLC_snd_pst (s : State) : (rdLC s).2.pst = s.pst := by rw [rdLC_frame]
@[simp] theorem restartHistory_pst (s : State) : (restartHistory s).pst = s.pst := by rw [restartHistory_frame]
@[simp] theorem handlerBody_pst (s : State) : (handlerBody s).pst = s.pst := by rw [handlerBody_frame]

/-- The generator, the environment and the handler keep PST (R107). -/
theorem exec_pst_eq {i : Instr} {s t : State} (hm : agentOf i ≠ .main) (hh : agentOf i ≠ .host)
    (h : exec i s = .next t) : t.pst = s.pst := by
  cases i with
  | hpulse => obtain ⟨-, rfl⟩ := execHpulse_next h; rfl
  | spur => obtain ⟨-, rfl⟩ := execSpur_next h; rfl
  | hclk => obtain ⟨-, ⟨-, rfl⟩ | ⟨-, rfl⟩⟩ := execHclk_next h <;> rfl
  | tick => obtain ⟨-, -, -, rfl⟩ := execTick_next h; simp
  | reset | start | stop => exact absurd rfl hh
  | rdlc | ppoll | pbegin | pdrive | pblank | pwait => exact absurd rfl hm

/-- From DRIVE every operation but PBLANK stays in DRIVE, or it is RESET or START and goes to IDLE. -/
theorem exec_pst_of_drive {i : Instr} {s t : State} (hd : s.pst = .drive) (hi : i ≠ .pblank)
    (h : exec i s = .next t) : t.pst = .drive ∨ t.pst = .idle := by
  cases i with
  | pblank => exact absurd rfl hi
  | reset => right; rw [execReset_next h]; simp
  | start => right; obtain ⟨-, -, rfl⟩ := execStart_next h; simp
  | stop => left; obtain ⟨-, rfl⟩ := execStop_next h; exact hd
  | rdlc => left; rw [execRdlc_next h]; simpa using hd
  | pdrive => left; obtain ⟨-, rfl⟩ := execPdrive_next h; exact hd
  | ppoll => cases hd.symm.trans (execPpoll_next h).1
  | pbegin => cases hd.symm.trans (execPbegin_next h).1
  | pwait => cases hd.symm.trans (execPwait_next h).1
  | hpulse | spur | hclk | tick => exact .inl ((exec_pst_eq (by decide) (by decide) h).trans hd)

/-- PBLANK is the only way from DRIVE to WAIT (R105). -/
theorem eq_pblank_of_drive_to_wait {i : Instr} {s t : State} (hd : s.pst = .drive) (h : exec i s = .next t)
    (hw : t.pst = .wait) : i = .pblank := by
  by_cases hi : i = .pblank
  · exact hi
  · obtain ht | ht := exec_pst_of_drive hd hi h <;> cases hw.symm.trans ht

/-! ### The obligations -/

/-- Settles O27: the two outcomes by PPOLL's branches, what the read writes by its frame. -/
theorem ppollOperation : Obligations.PpollOperation := by
  refine ⟨Laws.Encoding.ppoll, rfl, fun s hp hv => ?hit, fun s hp hv => ?miss, fun s hi hp hv => ?immediate,
    fun s hp => requires_false (beq_false_of_ne hp)⟩
  case hit => rw [execPpoll_hit hp hv, rdLC_frame]
  case miss => rw [execPpoll_miss hp hv, ← rdLC_frame]
  case immediate =>
    have hr := rdLC_of_immediate hi
    rw [execPpoll_miss hp (by rwa [hr]), hr]

/-- Settles O28: the capture by PBEGIN's rule, what the read writes by its frame. -/
theorem pbeginOperation : Obligations.PbeginOperation := by
  refine ⟨Laws.Encoding.pbegin, rfl, fun s hp => ?capture, fun s hi hp => ?immediate,
    fun s hp => requires_false (beq_false_of_ne hp)⟩
  case capture => rw [execPbegin_of_begin hp, rdLC_frame]; rfl
  case immediate => rw [execPbegin_of_begin hp, rdLC_of_immediate hi]; rfl

/-- Settles O29: the bytes are PDRIVE's encodings, the effect is the one write of the colours. -/
theorem pdriveOperation : Obligations.PdriveOperation :=
  ⟨fun r g b => ⟨encode_pdrive r g b ▸ Laws.Encoding.pdrive r g b, rfl⟩, fun r g b _ => execPdrive_of_drive r g b,
   fun _ _ _ _ hp => requires_false (beq_false_of_ne hp)⟩

/-- Settles O30: the effect by PBLANK's rule, the only way to WAIT by what every other operation does to PST in DRIVE. -/
theorem pblankOperation : Obligations.PblankOperation :=
  ⟨Laws.Encoding.pblank, rfl, fun _ => execPblank_of_drive, fun _ hp => requires_false (beq_false_of_ne hp),
   fun _ _ _ => eq_pblank_of_drive_to_wait⟩

/-- Settles O31: the three branches of PWAIT, the spin bound read off the configuration. -/
theorem pwaitOperation : Obligations.PwaitOperation := by
  refine ⟨Laws.Encoding.pwait, rfl, fun s hp hm hl => ?ends, fun s n hp hm hn hs => ?bound, fun s hp hm hb => ?spins,
    fun s hp => requires_false (beq_false_of_ne hp)⟩
  case ends => rw [execPwait_ends hp hm (by omega), finishLine_rdLC hl]
  case bound => rw [execPwait_bound hp hm (atSpinBound_iff.mpr ⟨n, hn, hs⟩), rdLC_frame]
  case spins => rw [execPwait_spins hp hm (atSpinBound_eq_false_iff.mpr hb), rdLC_frame]

end Sys2Proof.Machine
end

section
/-! PROOF. The pulse generator (spec/42_pulse_generator_and_lifecycle.md R124 to R128): what a pulse boundary writes with and
without a request pending, what HCLK answers on each side of the wrap, and the runs of HCLK inside a period and up to its
end. -/

namespace Sys2Proof.Machine

/-! ### The pulse boundary -/

theorem pulseBoundary_of_not_pending {s : State} (h : s.hirq = false) :
    pulseBoundary s = { s with hirq := true, log := s.log ++ [.pulse] } := by
  simp [pulseBoundary, State.logged, h]

/-- A pulse that finds a request pending is merged with it (R124): only the log tells. -/
theorem pulseBoundary_of_pending {s : State} (h : s.hirq = true) :
    pulseBoundary s = { s with log := s.log ++ [.missed, .pulse] } := by
  cases s; cases h; rfl

/-- At the start of a period there is nothing to rebaseline. -/
theorem rebaseline_of_hcnt_zero {s : State} (h : s.hcnt = 0) : rebaseline s = s := by
  cases s; cases h; rfl

/-! ### HPULSE, SPUR and the two branches of HCLK, each with its guard -/

theorem execHpulse_of_hrun {s : State} (hr : s.hrun = true) : exec .hpulse s = .next (pulseBoundary s) :=
  requires_true hr

theorem execSpur_of_ien {s : State} (hi : s.ien = true) : exec .spur s = .next (raiseSpurious s) :=
  requires_true hi

theorem counterWraps_iff {s : State} : s.counterWraps = true ↔ s.hcnt + 1 = s.cfg.hPeriod := beq_iff_eq

/-- HCLK inside a period counts (R127). -/
theorem execHclk_counts {s : State} (hr : s.hrun = true) (hn : s.hcnt + 1 ≠ s.cfg.hPeriod) :
    exec .hclk s = .next { s with hcnt := s.hcnt + 1 } :=
  (requires_true hr).trans (congrArg _ (if_neg (mt counterWraps_iff.mp hn)))

/-- HCLK in the last unit of a period is the pulse boundary (R127). -/
theorem execHclk_wraps {s : State} (hr : s.hrun = true) (hw : s.hcnt + 1 = s.cfg.hPeriod) :
    exec .hclk s = .next (pulseBoundary (rebaseline s)) :=
  (requires_true hr).trans (congrArg _ (if_pos (counterWraps_iff.mpr hw)))

/-! ### Runs of HCLK -/

/-- As long as the period does not end, `n` time units count `n` and do nothing else. -/
theorem execSeq_hclk_inside_period {s : State} {n : Nat} (hr : s.hrun = true) (hn : s.hcnt + n < s.cfg.hPeriod) :
    execSeq (List.replicate n .hclk) s = .next { s with hcnt := s.hcnt + n } := by
  induction n with
  | zero => rfl
  | succ n ih =>
    rw [List.replicate_succ', execSeq_append_next]
    have hlast : exec .hclk { s with hcnt := s.hcnt + n } = .next { s with hcnt := s.hcnt + (n + 1) } :=
      execHclk_counts hr (Nat.ne_of_lt hn)
    exact ⟨_, ih (by omega), execSeq_cons_next.mpr ⟨_, hlast, rfl⟩⟩

/-- The time units left of a period end in its pulse boundary. -/
theorem execSeq_hclk_to_wrap {s : State} {n : Nat} (hr : s.hrun = true) (hn : s.hcnt + (n + 1) = s.cfg.hPeriod) :
    execSeq (List.replicate (n + 1) .hclk) s = .next (pulseBoundary (rebaseline s)) := by
  rw [List.replicate_succ', execSeq_append_next]
  have hlast : exec .hclk { s with hcnt := s.hcnt + n } = .next (pulseBoundary (rebaseline s)) :=
    execHclk_wraps hr hn
  exact ⟨_, execSeq_hclk_inside_period hr (by omega), execSeq_cons_next.mpr ⟨_, hlast, rfl⟩⟩

/-! ### The HSYNC pin (R128) -/

theorem hsync_eq_active_iff (s : State) :
    s.hsync = s.cfg.hsyncActive ↔ s.hrun = true ∧ s.hcnt < s.cfg.hPulseWidth := by
  rw [State.hsync]
  split
  next h => exact iff_of_true rfl (by simpa using h)
  next h => exact iff_of_false (by simp) (by simpa using h)

/-! ### The obligations -/

/-- Settles O13: the run of HCLK inside the period and the one to its wrap, and the pin's definition read in their final
states. -/
theorem hsyncWaveform : Obligations.HsyncWaveform := by
  refine ⟨fun s n _ hr h0 hn => ⟨{ s with hcnt := s.hcnt + n }, execSeq_hclk_inside_period hr (by omega), ?count, ?pin⟩,
    fun s hwf hr h0 hq => ?period, hsync_eq_active_iff⟩
  case count => rw [h0, Nat.zero_add]
  case pin => rw [hsync_eq_active_iff, h0, Nat.zero_add, and_iff_right hr]
  case period =>
    obtain ⟨-, -, ⟨hpos, hlt⟩, -⟩ := wf_iff.mp hwf
    obtain ⟨n, hn⟩ := Nat.exists_eq_add_one.mpr (Nat.lt_trans hpos hlt)
    rw [hn, execSeq_hclk_to_wrap hr (by omega), rebaseline_of_hcnt_zero h0, pulseBoundary_of_not_pending hq]

/-- Settles O10: HPULSE is a pulse boundary, with or without a request pending. -/
theorem hpulseOperation : Obligations.HpulseOperation := by
  refine ⟨Laws.Encoding.hpulse, rfl, fun s hr hq => ?raised, fun s hr hq => ?merged, fun s => requires_false⟩
  case raised => rw [execHpulse_of_hrun hr, pulseBoundary_of_not_pending hq]
  case merged => rw [execHpulse_of_hrun hr, pulseBoundary_of_pending hq]

/-- Settles O11: SPUR raises the request and logs it, under its guard. -/
theorem spurOperation : Obligations.SpurOperation :=
  ⟨Laws.Encoding.spur, rfl, fun _ => execSpur_of_ien, fun _ => requires_false⟩

/-- Settles O12: the two branches of HCLK, the wrap with or without a request pending. -/
theorem hclkOperation : Obligations.HclkOperation := by
  refine ⟨Laws.Encoding.hclk, rfl, fun s => execHclk_counts, fun s hr hw hq => ?raised, fun s hr hw hq => ?merged,
    fun s => requires_false⟩
  case raised => rw [execHclk_wraps hr hw, pulseBoundary_of_not_pending (by exact hq)]; rfl
  case merged => rw [execHclk_wraps hr hw, pulseBoundary_of_pending (by exact hq)]; rfl

end Sys2Proof.Machine
end

section
/-! PROOF. The stages of the pulse interrupt (spec/60_exceptions.md R143): the stage and the word CTRL (spec/10_state.md R25)
read from IEN, HIRQ and HRUN, and what each operation of the table does to these three bits. -/

namespace Sys2Proof.Machine

/-! ### The stage and CTRL, from the three bits -/

theorem irqStage_eq_disabled_iff {s : State} : irqStage s = .disabled ↔ s.ien = false := by
  cases hi : s.ien <;> cases hq : s.hirq <;> simp [irqStage, hi, hq]

theorem irqStage_eq_idle_iff {s : State} : irqStage s = .idle ↔ s.ien = true ∧ s.hirq = false := by
  cases hi : s.ien <;> cases hq : s.hirq <;> simp [irqStage, hi, hq]

theorem irqStage_eq_pending_iff {s : State} : irqStage s = .pending ↔ s.ien = true ∧ s.hirq = true := by
  cases hi : s.ien <;> cases hq : s.hirq <;> simp [irqStage, hi, hq]

/-- CTRL is its three bits (R25). -/
theorem ctrl_of_bits {s : State} {q i r : Bool} (hq : s.hirq = q) (hi : s.ien = i) (hr : s.hrun = r) :
    s.ctrl = BitVec.ofBool q ++ BitVec.ofBool i ++ BitVec.ofBool r := by
  rw [State.ctrl, hq, hi, hr]

/-! ### The three bits, through the operations -/

@[simp] theorem restartHistory_hirq (s : State) : (restartHistory s).hirq = s.hirq := by rw [restartHistory_frame]
@[simp] theorem restartHistory_ien (s : State) : (restartHistory s).ien = s.ien := by rw [restartHistory_frame]
@[simp] theorem restartHistory_hrun (s : State) : (restartHistory s).hrun = s.hrun := by rw [restartHistory_frame]
@[simp] theorem handlerBody_hirq (s : State) : (handlerBody s).hirq = false := by rw [handlerBody_frame]
@[simp] theorem handlerBody_ien (s : State) : (handlerBody s).ien = s.ien := by rw [handlerBody_frame]
@[simp] theorem handlerBody_hrun (s : State) : (handlerBody s).hrun = s.hrun := by rw [handlerBody_frame]

/-- RESET and STOP drop the request, disable the interrupt and halt the generator (R121, R123). -/
theorem bits_of_reset_or_stop {s t : State} (h : exec .reset s = .next t ∨ exec .stop s = .next t) :
    t.hirq = false ∧ t.ien = false ∧ t.hrun = false := by
  obtain h | h := h
  · rw [execReset_next h]; simp
  · obtain ⟨-, rfl⟩ := execStop_next h; simp

/-- START enables the interrupt with no request pending, and runs the generator (R122). -/
theorem execStart_bits {s t : State} (h : exec .start s = .next t) :
    t.hirq = false ∧ t.ien = true ∧ t.hrun = true := by
  obtain ⟨-, -, rfl⟩ := execStart_next h
  simp

/-- TICK needs the interrupt enabled and a request pending, and takes the request away and no more (R82, R87). -/
theorem execTick_bits {s t : State} (h : exec .tick s = .next t) :
    (s.hirq = true ∧ s.ien = true) ∧ t.hirq = false ∧ t.ien = s.ien ∧ t.hrun = s.hrun := by
  obtain ⟨hi, hq, -, rfl⟩ := execTick_next h
  exact ⟨⟨hq, hi⟩, by simp⟩

/-- A pulse boundary is HPULSE, or HCLK on wrap (R9). -/
theorem pulses_cases {i : Instr} {s : State} (h : pulses i s = true) :
    i = .hpulse ∨ i = .hclk ∧ s.counterWraps = true := by
  simp only [pulses, Bool.and_eq_true, Bool.or_eq_true, beq_iff_eq] at h
  exact h.2

/-- Every source of the request sets HIRQ and leaves IEN (R124, R125, R127). -/
theorem bits_of_request {i : Instr} {s t : State} (hi : i = .spur ∨ pulses i s = true) (h : exec i s = .next t) :
    t.hirq = true ∧ t.ien = s.ien := by
  obtain rfl | hp := hi
  · obtain ⟨-, rfl⟩ := execSpur_next h
    exact ⟨rfl, rfl⟩
  · obtain rfl | ⟨rfl, hw⟩ := pulses_cases hp
    · obtain ⟨-, rfl⟩ := execHpulse_next h
      exact ⟨rfl, rfl⟩
    · obtain ⟨-, ⟨-, rfl⟩ | ⟨hn, -⟩⟩ := execHclk_next h
      · exact ⟨rfl, rfl⟩
      · cases hw.symm.trans hn

/-- "MAIN has no operation that changes IEN" (R143), nor HIRQ or HRUN. -/
theorem execMain_bits {i : Instr} {s t : State} (hm : agentOf i = .main) (h : exec i s = .next t) :
    t.hirq = s.hirq ∧ t.ien = s.ien ∧ t.hrun = s.hrun := by
  rw [execMain_frame hm h]
  exact ⟨rfl, rfl, rfl⟩

/-! ### The obligation -/

/-- Settles O14: the stage and CTRL are functions of HIRQ, IEN and HRUN, whose values after each operation are known. -/
theorem interruptLife : Obligations.InterruptLife := by
  refine ⟨fun s t h => ?disabled, fun s t h => ?started, fun s t hr h => ?acknowledged, fun i s t hi h hp => ?raised,
    fun i s t hm h => ?main⟩
  case disabled =>
    obtain ⟨hq, hi, hr⟩ := bits_of_reset_or_stop h
    exact ⟨irqStage_eq_disabled_iff.mpr hi, ctrl_of_bits hq hi hr⟩
  case started =>
    obtain ⟨hq, hi, hr⟩ := execStart_bits h
    exact ⟨irqStage_eq_idle_iff.mpr ⟨hi, hq⟩, ctrl_of_bits hq hi hr⟩
  case acknowledged =>
    obtain ⟨⟨hq, hi⟩, hq', hi', hr'⟩ := execTick_bits h
    exact ⟨irqStage_eq_pending_iff.mpr ⟨hi, hq⟩, irqStage_eq_idle_iff.mpr ⟨hi'.trans hi, hq'⟩, ctrl_of_bits hq hi hr,
      ctrl_of_bits hq' (hi'.trans hi) (hr'.trans hr)⟩
  case raised =>
    obtain ⟨hq', hi'⟩ := bits_of_request hp h
    exact irqStage_eq_pending_iff.mpr ⟨hi'.trans hi, hq'⟩
  case main =>
    obtain ⟨hq, hi, hr⟩ := execMain_bits hm h
    exact ⟨by rw [irqStage, irqStage, hq, hi], ctrl_of_bits hq hi hr⟩

end Sys2Proof.Machine
end

section
/-! PROOF. The configuration (spec/10_state.md R25, spec/70_reset_and_hazards.md R177): no operation writes it, so no step
and no run changes it. -/

namespace Sys2Proof.Machine

/-! ### The configuration, through the operations -/

@[simp] theorem restartHistory_cfg (s : State) : (restartHistory s).cfg = s.cfg := by rw [restartHistory_frame]
@[simp] theorem handlerBody_cfg (s : State) : (handlerBody s).cfg = s.cfg := by rw [handlerBody_frame]

/-- No operation writes Cfg (R177). -/
theorem exec_cfg_eq {i : Instr} {s t : State} (h : exec i s = .next t) : t.cfg = s.cfg := by
  cases i with
  | reset => rw [execReset_next h]; simp
  | start => obtain ⟨-, -, rfl⟩ := execStart_next h; simp
  | stop => obtain ⟨-, rfl⟩ := execStop_next h; rfl
  | hpulse => obtain ⟨-, rfl⟩ := execHpulse_next h; rfl
  | spur => obtain ⟨-, rfl⟩ := execSpur_next h; rfl
  | hclk => obtain ⟨-, ⟨-, rfl⟩ | ⟨-, rfl⟩⟩ := execHclk_next h <;> rfl
  | tick => obtain ⟨-, -, -, rfl⟩ := execTick_next h; exact handlerBody_cfg s
  | rdlc | ppoll | pbegin | pdrive | pblank | pwait => rw [execMain_frame rfl h]

/-! ### A step and a run -/

/-- A step takes a byte off the schedule and performs its operation or drops it; Cfg stays either way. -/
theorem step_cfg_eq {s t : State} (h : step s = .next t) : t.cfg = s.cfg := by
  obtain ⟨_, _, _, -, -, hexec | ⟨-, rfl⟩⟩ := step_next h
  · rw [exec_cfg_eq hexec]
  · rfl

theorem execSeq_cfg_eq {is : List Instr} {s t : State} (h : execSeq is s = .next t) : t.cfg = s.cfg := by
  induction is generalizing s with
  | nil => cases h; rfl
  | cons i is ih =>
    obtain ⟨u, hi, his⟩ := execSeq_cons_next.mp h
    exact (ih his).trans (exec_cfg_eq hi)

/-- Settles O49: a step by its inversion, a run by induction over its operations, both on `exec_cfg_eq`. -/
theorem configurationNeverChanges : Obligations.ConfigurationNeverChanges :=
  ⟨fun _ _ => step_cfg_eq, fun _ _ _ => execSeq_cfg_eq⟩

end Sys2Proof.Machine
end

section
/-! PROOF. Traces and their bytes (spec/30_encoding.md R60 to R65): a byte is its two nibbles, each format has one argument
for one operation, so decoding and encoding are inverse to each other. -/

namespace Sys2Proof.Machine

/-- A byte is its operation code and its argument (R60). -/
theorem opcOf_append_argOf (b : Byte) : opcOf b ++ argOf b = b := by
  apply BitVec.eq_of_toNat_eq
  have hlt : b.toNat % 16 < 2 ^ 4 := Nat.mod_lt _ (by decide)
  rw [BitVec.toNat_append, opcOf_toNat, argOf_toNat, ← Nat.shiftLeft_add_eq_or_of_lt hlt, Nat.shiftLeft_eq]
  omega

/-- Format Z accepts the argument 0000 only (R61). -/
theorem decodeZ_eq_ok_iff {i j : Instr} {arg : Nibble} : decodeZ i arg = .ok j ↔ i = j ∧ arg = 0#4 := by
  by_cases h : arg = 0#4 <;> simp [decodeZ, h]

/-- An argument of format P is PDRIVE's own argument for the three levels read from it (R61). -/
theorem argument_pdrive_of_bits : ∀ arg : Nibble, arg.getLsbD 3 = false →
    argument (.pdrive (arg.getLsbD 2) (arg.getLsbD 1) (arg.getLsbD 0)) = arg := by
  decide

/-- PDRIVE's bytes are the encodings of PDRIVE (R64). -/
theorem decodeP_pdrive_ok {arg : Nibble} {i : Instr} (h : decodeP .pdrive arg = .ok i) :
    opcode i = 0xA#4 ∧ argument i = arg := by
  unfold decodeP at h
  split at h
  · cases h
  next hbit =>
    obtain rfl := Except.ok.inj h
    exact ⟨rfl, argument_pdrive_of_bits arg (Bool.eq_false_iff.mpr hbit)⟩

/-- The nibbles of a byte that decodes are the operation's code and argument (R62). -/
theorem opcode_argument_of_decode {b : Byte} {i : Instr} (h : decode b = .ok i) :
    opcode i = opcOf b ∧ argument i = argOf b := by
  unfold decode at h
  split at h
  -- The tenth row is PDRIVE's, the fourteenth is the decoder's default.
  case h_10 hopc =>
    obtain ⟨hc, ha⟩ := decodeP_pdrive_ok h
    exact ⟨hc.trans (BitVec.eq_of_toNat_eq hopc.symm), ha⟩
  case h_14 => cases h
  all_goals
    next hopc =>
    obtain ⟨rfl, ha⟩ := decodeZ_eq_ok_iff.mp h
    exact ⟨BitVec.eq_of_toNat_eq hopc.symm, ha.symm⟩

/-- A byte that decodes is the byte of its operation. -/
theorem encode_of_decode {b : Byte} {i : Instr} (h : decode b = .ok i) : encode i = b := by
  obtain ⟨hc, ha⟩ := opcode_argument_of_decode h
  rw [encode, hc, ha, opcOf_append_argOf]

/-- The byte of every operation decodes to it. -/
theorem decode_encode (i : Instr) : decode (encode i) = .ok i := by
  cases i with
  | pdrive r g b => exact Laws.Encoding.pdrive r g b
  | reset | start | stop | hpulse | spur | tick | rdlc | ppoll | pbegin | pblank | pwait | hclk => rfl

theorem instr_wf (i : Instr) : i.wf = true := by
  cases i <;> rfl

/-- A trace decodes when its first byte and the rest do. -/
theorem decodeTrace_cons_eq_ok_iff {b : Byte} {bs : List Byte} {is : List Instr} :
    decodeTrace (b :: bs) = .ok is ↔
      ∃ i js, decode b = .ok i ∧ decodeTrace bs = .ok js ∧ is = i :: js := by
  simp only [decodeTrace]
  cases decode b with
  | error e => simp
  | ok i => cases decodeTrace bs <;> simp [eq_comm]

theorem decodeTrace_encodeTrace (is : List Instr) : decodeTrace (encodeTrace is) = .ok is := by
  induction is with
  | nil => rfl
  | cons i is ih => exact decodeTrace_cons_eq_ok_iff.mpr ⟨i, is, decode_encode i, ih, rfl⟩

theorem encodeTrace_of_decodeTrace {bs : List Byte} {is : List Instr} (h : decodeTrace bs = .ok is) :
    encodeTrace is = bs := by
  induction bs generalizing is with
  | nil => cases h; rfl
  | cons b bs ih =>
    obtain ⟨i, js, hb, hbs, rfl⟩ := decodeTrace_cons_eq_ok_iff.mp h
    rw [encodeTrace, encode_of_decode hb, ih hbs]

/-- Settles O1: both directions by induction over the trace, on the round trip of one byte. -/
theorem traceDecodeEncodeAgree : Obligations.TraceDecodeEncodeAgree :=
  ⟨fun is _ => decodeTrace_encodeTrace is, fun _ _ h => ⟨encodeTrace_of_decodeTrace h, fun i _ => instr_wf i⟩⟩

/-- Settles O3: each byte is the encoding of the operation the table gives it. -/
theorem tableBytesDecode : Obligations.TableBytesDecode :=
  ⟨decode_encode .reset, decode_encode .hpulse, decode_encode .tick, decode_encode .pbegin,
   decode_encode (.pdrive true false false), decode_encode (.pdrive false true false),
   decode_encode (.pdrive false false true), decode_encode .pwait, decode_encode .hclk⟩

end Sys2Proof.Machine
end

section
/-! PROOF. What an operation leaves unchanged (spec/10_state.md R29): the items its agent may not write; and what every
operation of a run keeps, the run keeps. -/

namespace Sys2Proof.Machine

/-! ### What is not written (R29) -/

/-- An operation leaves the items its agent may not write. -/
theorem copyItem_eq_of_not_mayWrite {i : Instr} {s t : State} {x : Item} (h : exec i s = .next t)
    (hx : mayWrite (agentOf i) x = false) : copyItem x s t = t := by
  cases i with
  | reset | start | stop =>
    cases x with
    | config => rw [copyItem, ← exec_cfg_eq h]
    | lc | vsync | colour | hirq | hcnt | hrun | ien | pacer | stuck => cases hx
  | hpulse =>
    obtain ⟨-, rfl⟩ := execHpulse_next h
    cases x with
    | hirq | hcnt => cases hx
    | lc | vsync | colour | hrun | ien | pacer | stuck | config => rfl
  | hclk =>
    obtain ⟨-, ⟨-, rfl⟩ | ⟨-, rfl⟩⟩ := execHclk_next h
    all_goals
      cases x with
      | hirq | hcnt => cases hx
      | lc | vsync | colour | hrun | ien | pacer | stuck | config => rfl
  | spur =>
    obtain ⟨-, rfl⟩ := execSpur_next h
    cases x with
    | hirq => cases hx
    | lc | vsync | colour | hcnt | hrun | ien | pacer | stuck | config => rfl
  | tick =>
    obtain ⟨-, -, -, rfl⟩ := execTick_next h
    rw [handlerBody_frame]
    cases x with
    | lc | vsync | hirq | hcnt => cases hx
    | colour | hrun | ien | pacer | stuck | config => rfl
  | rdlc | ppoll | pbegin | pdrive | pblank | pwait =>
    rw [execMain_frame rfl h]
    cases x with
    | colour | pacer | stuck => cases hx
    | lc | vsync | hirq | hcnt | hrun | ien | config => rfl

/-- Of HRUN and IEN only HOST writes (R29). -/
theorem mayWrite_running_of_not_host {a : Agent} : a ≠ .host → mayWrite a .hrun = false ∧ mayWrite a .ien = false := by
  cases a <;> decide

theorem exec_running_eq {i : Instr} {s t : State} (hi : agentOf i ≠ .host) (h : exec i s = .next t) :
    t.hrun = s.hrun ∧ t.ien = s.ien := by
  obtain ⟨hr, hn⟩ := mayWrite_running_of_not_host hi
  exact ⟨(congrArg State.hrun (copyItem_eq_of_not_mayWrite h hr)).symm,
    (congrArg State.ien (copyItem_eq_of_not_mayWrite h hn)).symm⟩

/-- Of LC and VSYNC only HOST and IRQ write (R29). -/
theorem mayWrite_vertical_of_not_irq {a : Agent} :
    a ≠ .host → a ≠ .irq → mayWrite a .lc = false ∧ mayWrite a .vsync = false := by
  cases a <;> decide

theorem agentOf_ne_irq {i : Instr} (h : i ≠ .tick) : agentOf i ≠ .irq := by
  cases i with
  | tick => exact absurd rfl h
  | reset | start | stop | hpulse | spur | hclk | rdlc | ppoll | pbegin | pdrive | pblank | pwait => nofun

/-- Of the operations that are not HOST's only TICK moves LC and VSYNC. -/
theorem exec_vertical_eq {i : Instr} {s t : State} (hi : agentOf i ≠ .host) (ht : i ≠ .tick)
    (h : exec i s = .next t) : t.lc = s.lc ∧ t.vsync = s.vsync := by
  obtain ⟨hl, hv⟩ := mayWrite_vertical_of_not_irq hi (agentOf_ne_irq ht)
  exact ⟨(congrArg State.lc (copyItem_eq_of_not_mayWrite h hl)).symm,
    (congrArg State.vsync (copyItem_eq_of_not_mayWrite h hv)).symm⟩

/-- MARKER is written by RESET and PBEGIN only. -/
theorem exec_marker_eq {i : Instr} {s t : State} (hr : i ≠ .reset) (hb : i ≠ .pbegin) (h : exec i s = .next t) :
    t.marker = s.marker := by
  cases i with
  | reset => exact absurd rfl hr
  | pbegin => exact absurd rfl hb
  | start => obtain ⟨-, -, rfl⟩ := execStart_next h; rw [restartHistory_frame]; rfl
  | stop => obtain ⟨-, rfl⟩ := execStop_next h; rfl
  | hpulse | spur | hclk | tick => exact (congrArg State.marker (copyItem_eq_of_not_mayWrite (x := .pacer) h rfl)).symm
  | rdlc => rw [execRdlc_next h, rdLC_frame]
  | ppoll => obtain ⟨-, ⟨-, rfl⟩ | ⟨-, rfl⟩⟩ := execPpoll_next h <;> rw [rdLC_frame]
  | pdrive => obtain ⟨-, rfl⟩ := execPdrive_next h; rfl
  | pblank => obtain ⟨-, rfl⟩ := execPblank_next h; rfl
  | pwait =>
    obtain ⟨-, ⟨-, -, rfl⟩ | ⟨-, -, rfl⟩ | ⟨-, -, rfl⟩⟩ := execPwait_next h <;> rw [rdLC_frame]
    rfl

/-- The operations that leave the pacer where it stands, HOST's apart. -/
def leavesPacer (i : Instr) : Prop := i ≠ .ppoll ∧ i ≠ .pbegin ∧ i ≠ .pblank ∧ i ≠ .pwait

theorem exec_pacer_eq {i : Instr} {s t : State} (hi : agentOf i ≠ .host) (hl : leavesPacer i) (h : exec i s = .next t) :
    t.pst = s.pst ∧ t.marker = s.marker ∧ t.pleft = s.pleft ∧ t.stuck = s.stuck := by
  obtain ⟨hppoll, hpbegin, hpblank, hpwait⟩ := hl
  cases i with
  | hpulse | hclk | spur | tick =>
    have hpacer := copyItem_eq_of_not_mayWrite (x := .pacer) h rfl
    have hstuck := copyItem_eq_of_not_mayWrite (x := .stuck) h rfl
    exact ⟨(congrArg State.pst hpacer).symm, (congrArg State.marker hpacer).symm, (congrArg State.pleft hpacer).symm,
      (congrArg State.stuck hstuck).symm⟩
  | rdlc => rw [execRdlc_next h, rdLC_frame]; exact ⟨rfl, rfl, rfl, rfl⟩
  | pdrive => obtain ⟨-, rfl⟩ := execPdrive_next h; exact ⟨rfl, rfl, rfl, rfl⟩
  | ppoll => exact absurd rfl hppoll
  | pbegin => exact absurd rfl hpbegin
  | pblank => exact absurd rfl hpblank
  | pwait => exact absurd rfl hpwait
  | reset | start | stop => exact absurd rfl hi

/-! ### Along a run -/

/-- What every operation of a run keeps, the run keeps. -/
theorem execSeq_keeps {P : State → Prop} {is : List Instr} {s t : State}
    (hstep : ∀ i ∈ is, ∀ u v, P u → exec i u = .next v → P v) (hs : P s) (h : execSeq is s = .next t) : P t := by
  induction is generalizing s with
  | nil => cases h; exact hs
  | cons i is ih =>
    obtain ⟨hi, hstep⟩ := List.forall_mem_cons.mp hstep
    obtain ⟨u, hu, his⟩ := execSeq_cons_next.mp h
    exact ih hstep (hi s u hs hu) his

theorem hostFree_iff {is : List Instr} : hostFree is = true ↔ ∀ i ∈ is, agentOf i ≠ .host := by
  simp [hostFree]

theorem hostFree_cons_iff {i : Instr} {is : List Instr} :
    hostFree (i :: is) = true ↔ agentOf i ≠ .host ∧ hostFree is = true := by
  simp [hostFree]

theorem execSeq_pacer_eq {is : List Instr} {s t : State} (hf : hostFree is = true) (hl : ∀ i ∈ is, leavesPacer i)
    (h : execSeq is s = .next t) :
    t.pst = s.pst ∧ t.marker = s.marker ∧ t.pleft = s.pleft ∧ t.stuck = s.stuck := by
  refine execSeq_keeps
    (P := fun u => u.pst = s.pst ∧ u.marker = s.marker ∧ u.pleft = s.pleft ∧ u.stuck = s.stuck)
    (fun i hi u v hu he => ?_) ⟨rfl, rfl, rfl, rfl⟩ h
  obtain ⟨hp, hm, hleft, hstuck⟩ := exec_pacer_eq (hostFree_iff.mp hf i hi) (hl i hi) he
  rwa [hp, hm, hleft, hstuck]

/-- No operation of MAIN touches what TICK's guard and its line rest on. -/
theorem execSeq_main_tick_eq {is : List Instr} {s t : State} (hm : ∀ i ∈ is, agentOf i = .main)
    (h : execSeq is s = .next t) : t.lc = s.lc ∧ t.ien = s.ien ∧ t.hirq = s.hirq := by
  refine execSeq_keeps (P := fun u => u.lc = s.lc ∧ u.ien = s.ien ∧ u.hirq = s.hirq) (fun i hi u v hu he => ?_)
    ⟨rfl, rfl, rfl⟩ h
  rw [execMain_frame (hm i hi) he]
  exact hu

end Sys2Proof.Machine
end

section
/-! PROOF. The invariants of every reachable state (spec/10_state.md R31), the history of eventual mode (R24) and the
register widths (R10): they hold at reset, and every operation keeps them. -/

namespace Sys2Proof.Machine

/-! ### The idle values of reset and start (R121, R122) -/

/-- LC, VSYNC, the outputs, the counter and the pacer at the values RESET and START give them. -/
structure IdleValues (s : State) : Prop where
  line : s.lc = 0
  vsyncHigh : s.vsync = true
  coloursOff : s.r = false ∧ s.g = false ∧ s.b = false
  generator : s.hcnt = 0 ∧ s.hirq = false ∧ s.ien = s.hrun
  pacer : s.pst = .idle ∧ s.pleft = 0

theorem Inv.of_idleValues {s : State} (hwf : s.cfg.wf = true) (h : IdleValues s) : Inv s := by
  obtain ⟨hl, hv, hc, ⟨hn, hq, hi⟩, hp, hleft⟩ := h
  obtain ⟨⟨hbp, hact, hfp, htot⟩, -, ⟨hpos, hlt⟩, -⟩ := wf_iff.mp hwf
  exact {
    cfgWf := hwf
    lcInFrame := by omega
    vsyncWindow := by simp [hv, hl]
    ienEqHrun := hi
    hirqRuns := by simp [hq]
    idleIffNoneLeft := iff_of_true hp hleft
    pleftBounded := by omega
    coloursOff := fun _ => hc
    hcntInPeriod := by omega }

theorem idleValues_resetWith (c : Cfg) : IdleValues (State.resetWith c) :=
  ⟨rfl, rfl, ⟨rfl, rfl, rfl⟩, ⟨rfl, rfl, rfl⟩, ⟨rfl, rfl⟩⟩

theorem idleValues_of_reset {s t : State} (h : exec .reset s = .next t) : IdleValues t := by
  rw [execReset_next h, restartHistory_frame]
  exact ⟨rfl, rfl, ⟨rfl, rfl, rfl⟩, ⟨rfl, rfl, rfl⟩, ⟨rfl, rfl⟩⟩

theorem idleValues_of_start {s t : State} (h : exec .start s = .next t) : IdleValues t := by
  obtain ⟨-, -, rfl⟩ := execStart_next h
  rw [restartHistory_frame]
  exact ⟨rfl, rfl, ⟨rfl, rfl, rfl⟩, ⟨rfl, rfl, rfl⟩, ⟨rfl, rfl⟩⟩

/-- Outside of IDLE the pacer has a line left (I-5). -/
theorem Inv.pleft_ne_zero {s : State} (h : Inv s) (hp : s.pst ≠ .idle) : s.pleft ≠ 0 := mt h.idleIffNoneLeft.mpr hp

/-! ### I-1 to I-8, through the operations -/

/-- A read keeps the invariants: none of them reads what it writes. -/
theorem Inv.rdLC {s : State} (h : Inv s) : Inv (rdLC s).2 := by
  rw [rdLC_frame]
  exact { h with }

/-- The counter at the start of a period. -/
theorem Inv.rebaseline {s : State} (h : Inv s) : Inv (rebaseline s) :=
  { h with hcntInPeriod := Nat.zero_lt_of_lt h.hcntInPeriod }

/-- A request raised while the generator runs. -/
theorem Inv.pulseBoundary {s : State} (h : Inv s) (hr : s.hrun = true) : Inv (pulseBoundary s) :=
  { h with hirqRuns := fun _ => hr }

/-- What the vertical signal rests on: I-1 and I-2 under a well-formed configuration. -/
structure VerticalInv (s : State) : Prop where
  cfgWf : s.cfg.wf = true
  lcInFrame : s.lc < s.cfg.vTotal
  vsyncWindow : s.vsync = false ↔ 1 ≤ s.lc ∧ s.lc ≤ s.cfg.vBpStart

theorem Inv.vertical {s : State} (h : Inv s) : VerticalInv s := ⟨h.cfgWf, h.lcInFrame, h.vsyncWindow⟩

/-- The handler leaves VSYNC low exactly after a pre-value of the sync phase (R91). -/
theorem VerticalInv.handlerBody_vsync_low_iff {s : State} (h : VerticalInv s) :
    (handlerBody s).vsync = false ↔ s.lc < s.cfg.vBpStart := by
  obtain ⟨⟨hbp, -⟩, -⟩ := wf_iff.mp h.cfgWf
  rw [handlerBody_frame]
  simp only [updateVsync_vsync]
  by_cases h0 : s.lc = 0
  · rw [if_pos h0]
    exact iff_of_true rfl (by omega)
  rw [if_neg h0]
  by_cases hb : s.lc = s.cfg.vBpStart
  · rw [if_pos hb]
    exact iff_of_false (by simp) (by omega)
  · rw [if_neg hb, h.vsyncWindow]
    omega

/-- The handler moves LC and VSYNC together, so that I-1 and I-2 stay. -/
theorem VerticalInv.handlerBody {s : State} (h : VerticalInv s) : VerticalInv (handlerBody s) := by
  obtain ⟨⟨hbp, hact, hfp, htot⟩, -⟩ := wf_iff.mp h.cfgWf
  have hlc := h.lcInFrame
  have hlow := h.handlerBody_vsync_low_iff
  rw [handlerBody_frame] at hlow ⊢
  refine ⟨h.cfgWf, nextLine_lt hlc, hlow.trans ?_⟩
  simp only [nextLine_eq]
  split <;> omega

theorem Inv.handlerBody {s : State} (h : Inv s) : Inv (handlerBody s) := by
  have hv := h.vertical.handlerBody
  rw [handlerBody_frame] at hv ⊢
  exact { h with
    lcInFrame := hv.lcInFrame
    vsyncWindow := hv.vsyncWindow
    hirqRuns := nofun
    hcntInPeriod := Nat.zero_lt_of_lt h.hcntInPeriod }

theorem Inv.hclk {s t : State} (h : Inv s) (he : exec .hclk s = .next t) : Inv t := by
  obtain ⟨hr, ⟨-, rfl⟩ | ⟨hw, rfl⟩⟩ := execHclk_next he
  · exact h.rebaseline.pulseBoundary hr
  · have hne : s.hcnt + 1 ≠ s.cfg.hPeriod := mt counterWraps_iff.mpr (Bool.eq_false_iff.mp hw)
    exact { h with hcntInPeriod := Nat.lt_of_le_of_ne h.hcntInPeriod hne }

/-- A burst begins with at least one line and its whole count left. -/
theorem Inv.ppoll {s t : State} (h : Inv s) (he : exec .ppoll s = .next t) : Inv t := by
  obtain ⟨hp, ⟨-, rfl⟩ | ⟨-, rfl⟩⟩ := execPpoll_next he
  · obtain ⟨-, ⟨hcount, -⟩, -⟩ := wf_iff.mp h.cfgWf
    rw [rdLC_frame]
    exact { h with
      idleIffNoneLeft := iff_of_false nofun (Nat.ne_of_gt hcount)
      pleftBounded := Nat.le_refl _
      coloursOff := fun _ => h.coloursOff (by rw [hp]; nofun) }
  · exact h.rdLC

/-- The pacer's state may move from one to another that is not IDLE, the colours off where it leaves DRIVE. -/
theorem Inv.setPst {s : State} (h : Inv s) (p : Pst) (hs : s.pst ≠ .idle) (hp : p ≠ .idle)
    (hc : p ≠ .drive → s.r = false ∧ s.g = false ∧ s.b = false) : Inv { s with pst := p } :=
  { h with
    idleIffNoneLeft := iff_of_false hp (h.pleft_ne_zero hs)
    coloursOff := hc }

theorem Inv.pbegin {s t : State} (h : Inv s) (he : exec .pbegin s = .next t) : Inv t := by
  obtain ⟨hp, rfl⟩ := execPbegin_next he
  rw [rdLC_frame]
  exact { h.setPst .drive (by rw [hp]; nofun) nofun (absurd rfl) with }

theorem Inv.pblank {s t : State} (h : Inv s) (he : exec .pblank s = .next t) : Inv t := by
  obtain ⟨hp, rfl⟩ := execPblank_next he
  have hoff : Inv (setColour false false false s) := { h with coloursOff := fun _ => ⟨rfl, rfl, rfl⟩ }
  exact { hoff.setPst .wait (by rw [setColour_pst, hp]; nofun) nofun (fun _ => ⟨rfl, rfl, rfl⟩) with }

/-- The end of a line's wait keeps I-5: IDLE exactly with the last line. -/
theorem Inv.finishLine {s : State} (h : Inv s) (hp : s.pst = .wait) : Inv (finishLine s) :=
  { h with
    idleIffNoneLeft := by simp
    pleftBounded := Nat.le_trans (Nat.sub_le _ _) h.pleftBounded
    coloursOff := fun _ => h.coloursOff (by rw [hp]; nofun) }

theorem Inv.pwait {s t : State} (h : Inv s) (he : exec .pwait s = .next t) : Inv t := by
  obtain ⟨hp, ⟨-, -, rfl⟩ | ⟨-, -, rfl⟩ | ⟨-, -, rfl⟩⟩ := execPwait_next he
  · exact h.rdLC.finishLine (by rw [rdLC_snd_pst, hp])
  · exact { h.rdLC with }
  · exact { h.rdLC with }

/-- Every operation keeps the invariants I-1 to I-8 (R31). -/
theorem exec_keeps_inv {i : Instr} {s t : State} (h : Inv s) (he : exec i s = .next t) : Inv t := by
  cases i with
  | reset => exact .of_idleValues (by rw [exec_cfg_eq he, h.cfgWf]) (idleValues_of_reset he)
  | start => exact .of_idleValues (by rw [exec_cfg_eq he, h.cfgWf]) (idleValues_of_start he)
  | stop =>
    obtain ⟨-, rfl⟩ := execStop_next he
    exact { h with ienEqHrun := rfl, hirqRuns := nofun }
  | hpulse =>
    obtain ⟨hr, rfl⟩ := execHpulse_next he
    exact h.pulseBoundary hr
  | spur =>
    obtain ⟨hi, rfl⟩ := execSpur_next he
    exact { h with hirqRuns := fun _ => h.ienEqHrun.symm.trans hi }
  | hclk => exact h.hclk he
  | tick =>
    obtain ⟨-, -, -, rfl⟩ := execTick_next he
    exact h.handlerBody
  | rdlc =>
    rw [execRdlc_next he]
    exact { h.rdLC with }
  | ppoll => exact h.ppoll he
  | pbegin => exact h.pbegin he
  | pdrive r g b =>
    obtain ⟨hp, rfl⟩ := execPdrive_next he
    exact { h with coloursOff := absurd hp }
  | pblank => exact h.pblank he
  | pwait => exact h.pwait he

/-- A run keeps the invariants. -/
theorem execSeq_keeps_inv {is : List Instr} {s t : State} (h : Inv s) (he : execSeq is s = .next t) : Inv t :=
  execSeq_keeps (fun _ _ _ _ => exec_keeps_inv) h he

/-- Settles O40: a step performs an operation, which keeps the invariants, or drops one, and no invariant reads the
schedule. -/
theorem stepKeepsInvariants : Obligations.StepKeepsInvariants := by
  intro s t h hs
  obtain ⟨_, bs, _, -, -, hexec | ⟨-, rfl⟩⟩ := step_next hs
  · exact exec_keeps_inv (s := { s with sched := bs }) { h with } hexec
  · exact { h with }

/-! ### The history of eventual mode (R24) -/

/-- HIST as RESET and START leave it: the one entry 0. -/
theorem historyOk_restart {s : State} (hwf : s.cfg.wf = true) (hl : s.lc = 0) (hw : s.wseq = 0) (hr : s.rseq = 0)
    (hh : s.hist = [0]) (hf : s.readWindow ≤ s.freeIdx) : HistoryOk s := by
  obtain ⟨⟨hbp, hact, hfp, htot⟩, -⟩ := wf_iff.mp hwf
  exact ⟨by rw [hh, hw]; rfl, by rw [hh, hw, hl]; rfl, by rw [hr]; exact Nat.zero_le _,
    by rw [hh]; simp; omega, hf⟩

/-- A read that stays between RSEQ and WSEQ keeps the history well-formed. -/
theorem HistoryOk.rdLC {s : State} (h : HistoryOk s) (he : s.cfg.lcVisibility = .eventual) : HistoryOk (rdLC s).2 := by
  rw [rdLC_of_eventual he]
  exact { h with seen := (readIndex_bounds h.seen).2, window := Nat.le_succ_of_le h.window }

/-- TICK's write of LC is one more entry of HIST, its newest (R24). -/
theorem HistoryOk.handlerBody {s : State} (h : HistoryOk s) (he : s.cfg.lcVisibility = .eventual)
    (hlc : s.lc < s.cfg.vTotal) : HistoryOk (handlerBody s) := by
  obtain ⟨hw, hh, hr⟩ := handlerBody_of_eventual he
  have hlen := h.length
  rw [handlerBody_frame, hw, hh, hr]
  exact {
    length := by simp [hlen]
    newest := by simp [← hlen]
    seen := Nat.le_succ_of_le h.seen
    lines := fun v hv => by
      obtain hv | rfl := List.mem_append.mp hv |>.imp_right List.mem_singleton.mp
      · exact h.lines v hv
      · exact nextLine_lt hlc
    window := Nat.le_refl _ }

/-- Every operation keeps the history of eventual mode well-formed. -/
theorem exec_keeps_history {i : Instr} {s t : State} (hwf : s.cfg.wf = true) (hv : s.cfg.lcVisibility = .eventual)
    (h : HistoryOk s) (he : exec i s = .next t) : HistoryOk t := by
  cases i with
  | reset =>
    rw [execReset_next he, restartHistory_of_eventual (by exact hv)]
    exact historyOk_restart hwf rfl rfl rfl rfl (Nat.le_refl _)
  | start =>
    obtain ⟨-, -, rfl⟩ := execStart_next he
    rw [restartHistory_of_eventual (by exact hv)]
    exact historyOk_restart hwf rfl rfl rfl rfl (Nat.le_refl _)
  | stop => obtain ⟨-, rfl⟩ := execStop_next he; exact { h with }
  | hpulse => obtain ⟨-, rfl⟩ := execHpulse_next he; exact { h with }
  | spur => obtain ⟨-, rfl⟩ := execSpur_next he; exact { h with }
  | hclk => obtain ⟨-, ⟨-, rfl⟩ | ⟨-, rfl⟩⟩ := execHclk_next he <;> exact { h with }
  | tick =>
    obtain ⟨-, -, hlc, rfl⟩ := execTick_next he
    exact h.handlerBody hv hlc
  | rdlc => rw [execRdlc_next he]; exact { h.rdLC hv with }
  | ppoll => obtain ⟨-, ⟨-, rfl⟩ | ⟨-, rfl⟩⟩ := execPpoll_next he <;> exact { h.rdLC hv with }
  | pbegin => obtain ⟨-, rfl⟩ := execPbegin_next he; exact { h.rdLC hv with }
  | pdrive => obtain ⟨-, rfl⟩ := execPdrive_next he; exact { h with }
  | pblank => obtain ⟨-, rfl⟩ := execPblank_next he; exact { h with }
  | pwait =>
    obtain ⟨-, ⟨-, -, rfl⟩ | ⟨-, -, rfl⟩ | ⟨-, -, rfl⟩⟩ := execPwait_next he <;> exact { h.rdLC hv with }

/-! ### The register widths (R10) -/

/-- In eventual mode a read returns an entry of HIST: the one its index names (R45). -/
theorem getElem?_hist_readIndex {s : State} (h : HistoryOk s) : s.hist[s.readIndex]? = some (s.histAt s.readIndex) := by
  have hlt : s.readIndex < s.hist.length := by
    have hle := (readIndex_bounds h.seen).2
    rw [h.length]
    omega
  rw [histAt_eq (List.getElem?_eq_getElem hlt), List.getElem?_eq_getElem hlt]

/-- A read returns a line of the frame, in both modes. -/
theorem rdLC_fst_lt_vTotal {s : State} (h : FullInv s) : (rdLC s).1 < s.cfg.vTotal := by
  cases hv : s.cfg.lcVisibility with
  | immediate =>
    rw [rdLC_of_immediate hv]
    exact h.base.lcInFrame
  | eventual =>
    rw [rdLC_of_eventual hv]
    exact (h.history hv).lines _ (List.mem_of_getElem? (getElem?_hist_readIndex (h.history hv)))

/-- Under the invariants LC and PLEFT fit their width, so MARKER is all that is left to look at. -/
theorem widthsFit_of_inv {s : State} (h : Inv s) (hm : s.marker < 2 ^ s.cfg.lcWidth) : WidthsFit s := by
  obtain ⟨⟨hbp, hact, hfp, htot⟩, ⟨-, hcount⟩, -, hwidth⟩ := wf_iff.mp h.cfgWf
  have hl := h.lcInFrame
  have hp := h.pleftBounded
  exact ⟨by omega, by omega, hm⟩

/-- What RESET leaves in MARKER fits its width (R121). -/
theorem execReset_marker_lt {s t : State} (h : exec .reset s = .next t) : t.marker < 2 ^ t.cfg.lcWidth := by
  rw [execReset_next h, restartHistory_frame]
  exact Nat.mod_lt _ (Nat.two_pow_pos _)

/-- What PBEGIN captures is a line of the frame, so it fits. -/
theorem execPbegin_marker_lt {s t : State} (hf : FullInv s) (h : exec .pbegin s = .next t) :
    t.marker < 2 ^ t.cfg.lcWidth := by
  obtain ⟨-, -, -, hwidth⟩ := wf_iff.mp hf.base.cfgWf
  have hlt := Nat.lt_of_lt_of_le (rdLC_fst_lt_vTotal hf) hwidth
  obtain ⟨-, rfl⟩ := execPbegin_next h
  rw [rdLC_frame]
  exact hlt

/-- Every operation keeps MARKER inside its width. -/
theorem exec_keeps_marker_width {i : Instr} {s t : State} (hf : FullInv s) (h : exec i s = .next t) :
    t.marker < 2 ^ t.cfg.lcWidth := by
  by_cases hr : i = .reset
  · subst hr; exact execReset_marker_lt h
  by_cases hb : i = .pbegin
  · subst hb; exact execPbegin_marker_lt hf h
  · rw [exec_marker_eq hr hb h, exec_cfg_eq h]
    exact hf.widths.marker

/-- Every operation keeps all the invariants. -/
theorem exec_keeps_fullInv {i : Instr} {s t : State} (h : FullInv s) (he : exec i s = .next t) : FullInv t := by
  have hbase := exec_keeps_inv h.base he
  refine ⟨hbase, fun hv => ?_, widthsFit_of_inv hbase (exec_keeps_marker_width h he)⟩
  rw [exec_cfg_eq he] at hv
  exact exec_keeps_history h.base.cfgWf hv (h.history hv) he

/-- No invariant reads the schedule. -/
theorem FullInv.setSched {s : State} (h : FullInv s) (bs : List Byte) : FullInv { s with sched := bs } :=
  ⟨{ h.base with }, fun hv => { h.history hv with }, { h.widths with }⟩

/-- Settles O41: as O40, with the history and the widths. -/
theorem stepKeepsHistoryAndWidths : Obligations.StepKeepsHistoryAndWidths := by
  intro s t h hs
  obtain ⟨_, bs, _, -, -, hexec | ⟨-, rfl⟩⟩ := step_next hs
  · exact exec_keeps_fullInv (h.setSched bs) hexec
  · exact h.setSched bs

/-! ### The reset state -/

theorem fullInv_resetWith {c : Cfg} (h : c.wf = true) : FullInv (State.resetWith c) := by
  have hbase := Inv.of_idleValues h (idleValues_resetWith c)
  exact ⟨hbase, fun _ => historyOk_restart h rfl rfl rfl rfl (Nat.le_refl _),
    widthsFit_of_inv hbase (Nat.two_pow_pos _)⟩

theorem fullInv_of_reset {s t : State} (hwf : s.cfg.wf = true) (h : exec .reset s = .next t) : FullInv t := by
  have hbase := Inv.of_idleValues (by rw [exec_cfg_eq h, hwf]) (idleValues_of_reset h)
  refine ⟨hbase, fun hv => ?_, widthsFit_of_inv hbase (execReset_marker_lt h)⟩
  rw [exec_cfg_eq h] at hv
  rw [execReset_next h, restartHistory_of_eventual (by exact hv)]
  exact historyOk_restart hwf rfl rfl rfl rfl (Nat.le_refl _)

/-- Settles O39: the idle values satisfy the invariants, with the history of one entry. -/
theorem invariantsHoldAtReset : Obligations.InvariantsHoldAtReset :=
  ⟨fun _ => fullInv_resetWith, fun _ _ => fullInv_of_reset⟩

end Sys2Proof.Machine
end

section
/-! PROOF. One operation at a time: the scheduled step, the operations of HOST, the handler and RDLC, each with its guard
(spec/42_pulse_generator_and_lifecycle.md R121 to R123, spec/40_vertical_state_machine.md R82 to R88,
spec/41_pixel_pacer.md R101). -/

namespace Sys2Proof.Machine

/-! ### The scheduled step (log 1, log 2) -/

/-- With an operation's byte at the head of the schedule the step is that operation on the rest. -/
theorem step_eq_stepOp {s : State} {b : Byte} {bs : List Byte} {i : Instr} (hs : s.sched = b :: bs)
    (hd : decode b = .ok i) : step s = stepOp i { s with sched := bs } := by
  simp [step, stepBody, nextByte, hs, hd]

/-- Settles O4: the step is `stepOp` on the rest of the schedule, which passes on what the operation answers but for a
guard's refusal. -/
theorem stepPerformsScheduledOperation : Obligations.StepPerformsScheduledOperation := by
  intro s b bs i hs hd
  rw [step_eq_stepOp hs hd, stepOp]
  refine ⟨fun t ht => by rw [ht], fun j hj => by rw [hj], fun why hne hw => ?_⟩
  rw [hw]
  split
  next j heq => exact absurd (Host.Outcome.refused.inj heq) (hne j)
  next heq => exact heq.symm ▸ rfl
  next heq => cases heq
  next heq => cases heq

/-! ### HOST: RESET, START, STOP (R121 to R123) -/

theorem execReset_answers (s : State) :
    exec .reset s = .next (restartHistory (freeMarker (clearRecords
      (setRunning false (idleGenerator (idlePacer (idleOutputs s))))))) := rfl

theorem execStart_of_stopped {s : State} (hr : s.hrun = false) (hwf : s.cfg.wf = true) :
    exec .start s = .next (restartHistory (setRunning true (idleGenerator (idlePacer (idleOutputs s))))) :=
  requires_true (by rw [hr, hwf]; rfl)

theorem execStop_of_hrun {s : State} (hr : s.hrun = true) :
    exec .stop s = .next (setRunning false (acknowledge s)) :=
  requires_true hr

/-- A generator that does not run leaves the HSYNC pin inactive (R128). -/
theorem hsync_of_stopped {s : State} (h : s.hrun = false) : s.hsync = !s.cfg.hsyncActive := by
  simp [State.hsync, h]

/-- Settles O5: RESET's one write read field by field, and that STUCK is kept by every other operation. -/
theorem resetOperation : Obligations.ResetOperation := by
  refine ⟨Laws.Encoding.reset, rfl, fun s => ⟨_, execReset_answers s, ?_⟩, fun i s t h hs ht => ?_⟩
  · rw [hsync_of_stopped (by simp), restartHistory_cfg]
    refine ⟨?_, ?_, ?_, ?_, ?_, ?_, ?_, ?_, ?_, rfl, ?_, ?_, ?_, ?_, ?_, fun hv => ?history, rfl, ?_, ?_⟩
    case history => rw [restartHistory_of_eventual (by exact hv)]; exact ⟨rfl, rfl, rfl⟩
    all_goals rw [restartHistory_frame]; rfl
  · by_cases hi : i = .reset
    · exact hi
    · cases ht.symm.trans (stuck_kept h hs hi)

/-- Settles O6: START's one write in each mode, and its guard. -/
theorem startOperation : Obligations.StartOperation := by
  refine ⟨Laws.Encoding.start, rfl, fun s hr hwf hv => ?immediate, fun s hr hwf hv => ?eventual, fun s hg => ?refused⟩
  case immediate => rw [execStart_of_stopped hr hwf, restartHistory_of_immediate (by exact hv)]; rfl
  case eventual => rw [execStart_of_stopped hr hwf, restartHistory_of_eventual (by exact hv)]; rfl
  case refused =>
    refine requires_false ?_
    obtain hr | hwf := hg
    · simp [hr]
    · simp [hwf]

/-- The guards of MAIN's operations read PST only (R123, R170). -/
theorem opGuard_main_congr {i : Instr} {s t : State} (hm : agentOf i = .main) (hp : t.pst = s.pst) :
    opGuard i t = opGuard i s := by
  cases i with
  | rdlc => rfl
  | ppoll | pbegin | pdrive | pblank | pwait => simp only [opGuard, hp]
  | reset | start | stop | hpulse | spur | tick | hclk => cases hm

/-- Settles O7: STOP's one write, its guard, and that it leaves PST. -/
theorem stopOperation : Obligations.StopOperation :=
  ⟨Laws.Encoding.stop, rfl, fun _ hr => ⟨execStop_of_hrun hr, fun _ hm => opGuard_main_congr hm rfl⟩,
   fun _ => requires_false⟩

/-! ### TICK (R82 to R88) -/

theorem execTick_of_pending {s : State} (hi : s.ien = true) (hq : s.hirq = true) (hl : s.lc < s.cfg.vTotal) :
    exec .tick s = .next (handlerBody s) :=
  (requires_true (by rw [hi, hq]; rfl)).trans (if_pos hl)

theorem execTick_out_of_frame {s : State} (hi : s.ien = true) (hq : s.hirq = true) (hl : s.cfg.vTotal ≤ s.lc) :
    exec .tick s = .refused .lineOutOfRange :=
  (requires_true (by rw [hi, hq]; rfl)).trans (if_neg (Nat.not_lt.mpr hl))

@[simp] theorem handlerBody_lc (s : State) : (handlerBody s).lc = nextLine s.cfg s.lc := by rw [handlerBody_frame]

theorem handlerBody_vsync (s : State) :
    (handlerBody s).vsync = if s.lc = 0 then false else if s.lc = s.cfg.vBpStart then true else s.vsync := by
  rw [handlerBody_frame]; exact updateVsync_vsync _ _

theorem handlerBody_log (s : State) :
    (handlerBody s).log = s.log ++
      (if s.lc = 0 then (if s.vsync then [.vsFall] else [])
       else if s.lc = s.cfg.vBpStart then (if s.vsync then [] else [.vsRise]) else []) := by
  rw [handlerBody_frame]; exact updateVsync_log _ _

/-- Settles O16: the handler's whole effect with its ghost items apart, its guard, and its refusal out of the frame. -/
theorem tickOperation : Obligations.TickOperation := by
  refine ⟨Laws.Encoding.tick, rfl,
    fun s hi hq hl => ⟨handlerBody s, execTick_of_pending hi hq hl, ?frame, fun hv => ?immediate, fun hv => ?eventual⟩,
    fun s hg => requires_false ?guard, fun s => execTick_out_of_frame⟩
  case frame =>
    have hrise : (if s.vsync = true then [] else [Event.vsRise]) = if s.vsync = false then [Event.vsRise] else [] := by
      cases s.vsync <;> rfl
    refine (handlerBody_frame s).trans ?_
    rw [updateVsync_vsync, updateVsync_log, nextLine_eq, hrise]
  case immediate => exact handlerBody_of_immediate hv
  case eventual =>
    rw [handlerBody_lc]
    exact handlerBody_of_eventual hv
  case guard => obtain h | h := hg <;> simp [h]

/-! ### INIT and LINE (R69, R166) -/

/-- LINE from a running state: the pulse, and then its handler (R69). -/
theorem execSeq_opLine {s : State} (hr : s.hrun = true) (hi : s.ien = true) (hl : s.lc < s.cfg.vTotal) :
    execSeq opLine s = .next (handlerBody (pulseBoundary s)) :=
  execSeq_cons_next.mpr ⟨_, execHpulse_of_hrun hr, execSeq_cons_next.mpr ⟨_, execTick_of_pending hi rfl hl, rfl⟩⟩

/-- INIT reaches the running start state, with STUCK clear and an empty log (R166). -/
theorem execSeq_opInit {s : State} (hwf : s.cfg.wf = true) :
    ∃ t, execSeq opInit s = .next t ∧ RunningStart t ∧ t.stuck = false ∧ t.cfg = s.cfg ∧ t.log = [] := by
  have hu := execReset_answers s
  obtain ⟨-, -, hr⟩ := bits_of_reset_or_stop (.inl hu)
  have hcfg := exec_cfg_eq hu
  have hst := execStart_of_stopped hr (hcfg ▸ hwf)
  refine ⟨_, execSeq_cons_next.mpr ⟨_, hu, execSeq_cons_next.mpr ⟨_, hst, rfl⟩⟩, ?_, ?_,
    (exec_cfg_eq hst).trans hcfg, ?_⟩
  · rw [restartHistory_frame]
    exact ⟨hcfg ▸ hwf, rfl, rfl, ⟨rfl, rfl, rfl⟩, ⟨rfl, rfl, rfl, rfl⟩, ⟨rfl, rfl, rfl⟩⟩
  · exact (exec_stuck_eq (i := .start) nofun nofun hst).trans (execReset_stuck hu)
  · rw [restartHistory_frame, restartHistory_frame]; rfl

/-- The first LINE of a run meets line 0 and takes VSYNC low (R166). -/
theorem execSeq_opLine_of_runningStart {s : State} (h : RunningStart s) :
    ∃ t, execSeq opLine s = .next t ∧ t.lc = 1 ∧ t.vsync = false ∧ t.log = s.log ++ [.pulse, .vsFall] := by
  obtain ⟨hwf, hl, hv, -, ⟨-, hq, hi, hr⟩, -⟩ := h
  obtain ⟨⟨hbp, hact, hfp, htot⟩, -⟩ := wf_iff.mp hwf
  refine ⟨_, execSeq_opLine hr hi (by omega), ?_, ?_, ?_⟩
  · rw [handlerBody_lc, nextLine_eq, pulseBoundary_lc, pulseBoundary_cfg, hl, if_neg (by omega)]
  · simp [handlerBody_vsync, hl]
  · simp [handlerBody_log, hl, hv, hq]

/-- Settles O8: INIT by RESET's and START's writes, then the first LINE of a run. -/
theorem initReachesRunningStart : Obligations.InitReachesRunningStart := by
  intro s hwf
  obtain ⟨t, ht, hstart, hstuck, hcfg, hlog⟩ := execSeq_opInit hwf
  obtain ⟨u, hu, hl, hv, hlog'⟩ := execSeq_opLine_of_runningStart hstart
  exact ⟨⟨t, ht, hstart, hstuck, hcfg⟩,
    ⟨u, execSeq_append_next.mpr ⟨t, ht, hu⟩, hl, hv, by rw [hlog', hlog]; rfl⟩⟩

/-! ### RDLC (R101) -/

theorem execRdlc_answers (s : State) :
    exec .rdlc s = .next { (rdLC s).2 with results := s.results ++ [(rdLC s).1] } := rfl

/-- Settles O24: the read of immediate mode is LC, and RDLC records it. -/
theorem immediateReadReturnsLine : Obligations.ImmediateReadReturnsLine := by
  intro s hv
  have hr := rdLC_of_immediate hv
  exact ⟨hr, by rw [execRdlc_answers, hr]⟩

/-- Settles O26: RDLC is a read and its record, and a read touches RSEQ and the counter only. -/
theorem rdlcOperation : Obligations.RdlcOperation := by
  refine ⟨Laws.Encoding.rdlc, rfl, fun s => ⟨_, execRdlc_answers s, rfl, ?frame, fun hv => ?immediate⟩⟩
  case frame => rw [rdLC_frame]
  case immediate => rw [rdLC_of_immediate hv]; exact ⟨rfl, rfl⟩

end Sys2Proof.Machine
end

section
/-! PROOF. The vertical signal along runs without HOST operations (spec/40_vertical_state_machine.md R85 to R92): what each
operation appends to the log, how LC and VSYNC move with the TICKs, and the frame's one fall and one rise. -/

namespace Sys2Proof.Machine

/-! ### What an operation appends to the log (spec/00_scope.md R9) -/

/-- The events of a pulse boundary. -/
def pulseEvents (s : State) : List Event := if s.hirq then [.missed, .pulse] else [.pulse]

/-- The events of T3 on the pre-value LC. -/
def vsyncEvents (s : State) : List Event :=
  if s.lc = 0 then (if s.vsync then [.vsFall] else [])
  else if s.lc = s.cfg.vBpStart then (if s.vsync then [] else [.vsRise]) else []

theorem pulseEvents_cases (s : State) : pulseEvents s = [.missed, .pulse] ∨ pulseEvents s = [.pulse] := by
  unfold pulseEvents
  cases s.hirq with
  | true => exact .inl rfl
  | false => exact .inr rfl

theorem vsyncEvents_cases (s : State) : vsyncEvents s = [.vsFall] ∨ vsyncEvents s = [.vsRise] ∨ vsyncEvents s = [] := by
  unfold vsyncEvents
  split
  · cases s.vsync <;> simp
  split
  · cases s.vsync <;> simp
  · simp

/-- The events an operation appends where it is taken; RESET, which empties the log instead, has none. -/
def newEvents : Instr → State → List Event
  | .hpulse, s => pulseEvents s
  | .hclk, s => if s.counterWraps then pulseEvents s else []
  | .spur, _ => [.spurious]
  | .tick, s => vsyncEvents s
  | .pbegin, s => [.draw (rdLC s).1]
  | .reset, _ | .start, _ | .stop, _ | .rdlc, _ | .ppoll, _ | .pdrive _ _ _, _ | .pblank, _ | .pwait, _ => []

/-- Every operation but RESET appends its events to the log and writes no other (R9). -/
theorem exec_log {i : Instr} {s t : State} (hr : i ≠ .reset) (h : exec i s = .next t) :
    t.log = s.log ++ newEvents i s := by
  cases i with
  | reset => exact absurd rfl hr
  | start => obtain ⟨-, -, rfl⟩ := execStart_next h; rw [restartHistory_frame]; exact (List.append_nil _).symm
  | stop => obtain ⟨-, rfl⟩ := execStop_next h; exact (List.append_nil _).symm
  | hpulse => obtain ⟨-, rfl⟩ := execHpulse_next h; rfl
  | spur => obtain ⟨-, rfl⟩ := execSpur_next h; rfl
  | hclk =>
    obtain ⟨-, ⟨hw, rfl⟩ | ⟨hw, rfl⟩⟩ := execHclk_next h
    · rw [newEvents, if_pos hw]; rfl
    · rw [newEvents, if_neg (by simp [hw]), List.append_nil]
  | tick => obtain ⟨-, -, -, rfl⟩ := execTick_next h; exact handlerBody_log s
  | pbegin => obtain ⟨-, rfl⟩ := execPbegin_next h; rw [rdLC_frame]; rfl
  | rdlc => rw [execRdlc_next h, rdLC_frame]; exact (List.append_nil _).symm
  | ppoll =>
    obtain ⟨-, ⟨-, rfl⟩ | ⟨-, rfl⟩⟩ := execPpoll_next h <;> rw [rdLC_frame] <;> exact (List.append_nil _).symm
  | pdrive => obtain ⟨-, rfl⟩ := execPdrive_next h; exact (List.append_nil _).symm
  | pblank => obtain ⟨-, rfl⟩ := execPblank_next h; exact (List.append_nil _).symm
  | pwait =>
    obtain ⟨-, ⟨-, -, rfl⟩ | ⟨-, -, rfl⟩ | ⟨-, -, rfl⟩⟩ := execPwait_next h <;> rw [rdLC_frame] <;>
      exact (List.append_nil _).symm

/-- The events of a run, in order. -/
def runEvents (s : State) : List Instr → List Event
  | [] => []
  | i :: is => newEvents i s ++ runEvents (afterOp i s) is

theorem runEvents_cons_of_next {i : Instr} {is : List Instr} {s u : State} (h : exec i s = .next u) :
    runEvents s (i :: is) = newEvents i s ++ runEvents u is := by
  rw [runEvents, afterOp_of_next h]

/-! ### Runs without HOST operations -/

/-- A run's TICKs are its first operation's and the rest's. -/
theorem count_tick_cons (i : Instr) (is : List Instr) :
    (i :: is).count .tick = [i].count .tick + is.count .tick :=
  List.count_append (l₁ := [i])

theorem ne_reset_of_not_host {i : Instr} (h : agentOf i ≠ .host) : i ≠ .reset := by
  rintro rfl; exact h rfl

/-- A run without RESET only appends its events to the log. -/
theorem execSeq_log {is : List Instr} {s t : State} (hf : hostFree is = true) (h : execSeq is s = .next t) :
    t.log = s.log ++ runEvents s is := by
  induction is generalizing s with
  | nil => cases h; exact (List.append_nil _).symm
  | cons i is ih =>
    obtain ⟨hi, hf⟩ := hostFree_cons_iff.mp hf
    obtain ⟨u, hu, his⟩ := execSeq_cons_next.mp h
    rw [ih hf his, exec_log (ne_reset_of_not_host hi) hu, List.append_assoc, runEvents_cons_of_next hu]

/-! ### TICKs and requests (R124, R125, R178) -/

theorem one_le_count_pulseEvents (s : State) : 1 ≤ (pulseEvents s).count .pulse := by
  obtain h | h := pulseEvents_cases s <;> rw [h] <;> decide

/-- Each operation pays for the TICK it is or the request it leaves with the request it found or one it logs. -/
theorem exec_request_balance {i : Instr} {s t : State} (hi : agentOf i ≠ .host) (h : exec i s = .next t) :
    [i].count .tick + t.hirq.toNat ≤
      s.hirq.toNat + (newEvents i s).count .pulse + (newEvents i s).count .spurious := by
  have hp := one_le_count_pulseEvents s
  cases i with
  | hpulse =>
    obtain ⟨-, rfl⟩ := execHpulse_next h
    simp [newEvents]
    omega
  | hclk =>
    obtain ⟨-, ⟨hw, rfl⟩ | ⟨hw, rfl⟩⟩ := execHclk_next h
    · simp [newEvents, hw]
      omega
    · simp [newEvents, hw]
  | spur =>
    obtain ⟨-, rfl⟩ := execSpur_next h
    simp [newEvents]
  | tick =>
    obtain ⟨-, hq, -, rfl⟩ := execTick_next h
    simp [hq]
    omega
  | rdlc | ppoll | pbegin | pdrive | pblank | pwait =>
    obtain ⟨hq, -⟩ := execMain_bits rfl h
    simp [hq]
    omega
  | reset | start | stop => exact absurd rfl hi

theorem execSeq_request_balance {is : List Instr} {s t : State} (hf : hostFree is = true)
    (h : execSeq is s = .next t) :
    is.count .tick + t.hirq.toNat ≤
      s.hirq.toNat + (runEvents s is).count .pulse + (runEvents s is).count .spurious := by
  induction is generalizing s with
  | nil => cases h; simp [runEvents]
  | cons i is ih =>
    obtain ⟨hi, hf⟩ := hostFree_cons_iff.mp hf
    obtain ⟨u, hu, his⟩ := execSeq_cons_next.mp h
    have hfirst := exec_request_balance hi hu
    have hrest := ih hf his
    rw [runEvents_cons_of_next hu, List.count_append, List.count_append, count_tick_cons i is]
    omega

/-- Settles O15: the balance of each operation, summed over the run. -/
theorem ticksNeverOutnumberRequests : Obligations.TicksNeverOutnumberRequests :=
  fun s _ is hf h => ⟨runEvents s is, execSeq_log hf h, execSeq_request_balance hf h⟩

/-! ### The sync window and the range form (R91, R92) -/

/-- Settles O18: the invariants hold where the TICK starts, and the handler's level follows the sync interval. -/
theorem syncWindow : Obligations.SyncWindow := by
  intro s u t is hs hu ht
  have hv := (execSeq_keeps_inv hs hu).vertical
  obtain ⟨-, -, -, rfl⟩ := execTick_next ht
  rw [hv.handlerBody_vsync_low_iff, phase_eq_some_iff hv.cfgWf]
  exact (and_iff_right (Nat.zero_le _)).symm

theorem clearVsync_of_low {s : State} (h : s.vsync = false) : clearVsync s = s := by
  cases s; cases h; simp [clearVsync, State.logged]

theorem setVsync_of_high {s : State} (h : s.vsync = true) : setVsync s = s := by
  cases s; cases h; simp [setVsync, State.logged]

/-- Inside the window's levels the two equality tests of T3 are one range test (R92). -/
theorem updateVsync_eq_range {k : Nat} {s : State} (hbp : 0 < s.cfg.vBpStart)
    (hw : s.vsync = false ↔ 1 ≤ k ∧ k ≤ s.cfg.vBpStart) :
    updateVsync k s = if k < s.cfg.vBpStart then clearVsync s else setVsync s := by
  unfold updateVsync
  by_cases h0 : k = 0
  · rw [if_pos h0, if_pos (by omega)]
  rw [if_neg h0]
  by_cases hb : k = s.cfg.vBpStart
  · rw [if_pos hb, if_neg (by omega)]
  rw [if_neg hb]
  split
  next hlt => exact (clearVsync_of_low (hw.mpr (by omega))).symm
  next hge => exact (setVsync_of_high (eq_true_of_ne_false (mt hw.mp (by omega)))).symm

/-- Settles O19: the two forms differ in T3 only, and T3's forms agree inside the window. -/
theorem edgeFormIsRangeForm : Obligations.EdgeFormIsRangeForm := by
  intro s h
  obtain ⟨⟨hbp, -⟩, -⟩ := wf_iff.mp h.cfgWf
  have hT3 : updateVsync s.lc (acknowledge (rebaseline s)) = _ := updateVsync_eq_range hbp h.vsyncWindow
  simp only [exec, execTick, execTickRange, handlerBody, hT3]
  rfl

/-! ### LC counts the TICKs modulo the frame (R86) -/

/-- One operation moves LC by the TICK it is or is not, modulo the frame. -/
theorem exec_lc {i : Instr} {s t : State} (hl : s.lc < s.cfg.vTotal) (hi : agentOf i ≠ .host)
    (h : exec i s = .next t) : t.lc = (s.lc + [i].count .tick) % s.cfg.vTotal := by
  by_cases ht : i = .tick
  · subst ht
    obtain ⟨-, -, -, rfl⟩ := execTick_next h
    rw [handlerBody_lc, nextLine_eq_mod hl]
    rfl
  · rw [(exec_vertical_eq hi ht h).1, List.count_singleton, if_neg (by simpa using ht), Nat.add_zero,
      Nat.mod_eq_of_lt hl]

/-- LC stays inside the frame. -/
theorem exec_lc_lt {i : Instr} {s t : State} (hl : s.lc < s.cfg.vTotal) (hi : agentOf i ≠ .host)
    (h : exec i s = .next t) : t.lc < t.cfg.vTotal := by
  rw [exec_cfg_eq h, exec_lc hl hi h]
  exact Nat.mod_lt _ (Nat.zero_lt_of_lt hl)

theorem execSeq_lc {is : List Instr} {s t : State} (hl : s.lc < s.cfg.vTotal) (hf : hostFree is = true)
    (h : execSeq is s = .next t) : t.lc = (s.lc + is.count .tick) % s.cfg.vTotal := by
  induction is generalizing s with
  | nil => cases h; exact (Nat.mod_eq_of_lt hl).symm
  | cons i is ih =>
    obtain ⟨hi, hf⟩ := hostFree_cons_iff.mp hf
    obtain ⟨u, hu, his⟩ := execSeq_cons_next.mp h
    rw [ih (exec_lc_lt hl hi hu) hf his, exec_cfg_eq hu, exec_lc hl hi hu, Nat.mod_add_mod, count_tick_cons i is,
      Nat.add_assoc]

/-- Settles O20: the TICKs summed over the run, modulo the frame. -/
theorem lineCountsTicksModuloFrame : Obligations.LineCountsTicksModuloFrame :=
  fun _ _ _ hl hf h => execSeq_lc hl hf h

/-! ### A frame (R90) -/

theorem preValues_cons_of_next {i : Instr} {is : List Instr} {s u : State} (h : exec i s = .next u) :
    preValues s (i :: is) = (if i = .tick then [s.lc] else []) ++ preValues u is := by
  simp [preValues, taken_of_next h, afterOp_of_next h]

/-- The pre-values of a run count up from LC, modulo the frame. -/
theorem preValues_eq {is : List Instr} {s t : State} (hl : s.lc < s.cfg.vTotal) (hf : hostFree is = true)
    (h : execSeq is s = .next t) :
    preValues s is = (List.range (is.count .tick)).map fun j => (s.lc + j) % s.cfg.vTotal := by
  induction is generalizing s with
  | nil => rfl
  | cons i is ih =>
    obtain ⟨hi, hf⟩ := hostFree_cons_iff.mp hf
    obtain ⟨u, hu, his⟩ := execSeq_cons_next.mp h
    rw [preValues_cons_of_next hu, ih (exec_lc_lt hl hi hu) hf his, exec_cfg_eq hu, exec_lc hl hi hu]
    simp only [Nat.mod_add_mod, Nat.add_assoc]
    by_cases ht : i = .tick
    · subst ht
      rw [if_pos rfl, List.count_cons_self (l := is), List.range_succ_eq_map, List.map_cons, List.map_map, Nat.add_zero,
        Nat.mod_eq_of_lt hl, List.singleton_append]
      refine congrArg (s.lc :: ·) (List.map_congr_left fun j _ => ?_)
      exact congrArg (fun k => (s.lc + k) % s.cfg.vTotal) (Nat.add_comm 1 j)
    · have hnone : [i].count .tick = 0 := List.count_eq_zero.mpr (by simpa using Ne.symm ht)
      simp only [if_neg ht, count_tick_cons i is, hnone, Nat.zero_add, List.nil_append]

/-- The lines of the frame from any one on, round the wrap, are the lines of the frame. -/
theorem map_add_mod_perm_range {k n : Nat} (hk : k < n) :
    ((List.range n).map fun j => (k + j) % n).Perm (List.range n) := by
  obtain ⟨m, rfl⟩ := Nat.exists_eq_add_of_le (Nat.le_of_lt hk)
  have hup : (List.range m).map (fun j => (k + j) % (k + m)) = (List.range m).map (k + ·) :=
    List.map_congr_left fun j hj => Nat.mod_eq_of_lt (Nat.add_lt_add_left (List.mem_range.mp hj) k)
  have hwrap : (List.range k).map ((fun j => (k + j) % (k + m)) ∘ (m + ·)) = List.range k := by
    refine (List.map_congr_left fun j hj => ?_).trans (List.map_id _)
    have hj' := List.mem_range.mp hj
    calc (k + (m + j)) % (k + m) = (k + m + j) % (k + m) := by rw [Nat.add_assoc]
      _ = j % (k + m) := Nat.add_mod_left _ _
      _ = j := Nat.mod_eq_of_lt (Nat.lt_add_right m hj')
  have hrot : (List.range (k + m)).map (fun j => (k + j) % (k + m)) = (List.range m).map (k + ·) ++ List.range k := by
    rw [Nat.add_comm k m, List.range_add, List.map_append, List.map_map, Nat.add_comm m k, hup, hwrap]
  rw [hrot, List.range_add]
  exact List.perm_append_comm

/-- Each operation keeps I-1 and I-2, whatever the pacer and the generator are at. -/
theorem exec_keeps_verticalInv {i : Instr} {s t : State} (hv : VerticalInv s) (hi : agentOf i ≠ .host)
    (h : exec i s = .next t) : VerticalInv t := by
  by_cases ht : i = .tick
  · subst ht
    obtain ⟨-, -, -, rfl⟩ := execTick_next h
    exact hv.handlerBody
  · obtain ⟨hl, hs⟩ := exec_vertical_eq hi ht h
    have hc := exec_cfg_eq h
    exact ⟨hc ▸ hv.cfgWf, by rw [hl, hc]; exact hv.lcInFrame, by rw [hl, hc, hs]; exact hv.vsyncWindow⟩

/-- Under I-2 the level changes at line 0 and at `V_BP_START`, and nowhere else (R85). -/
theorem vsyncEvents_of_verticalInv {s : State} (hv : VerticalInv s) :
    vsyncEvents s = if s.lc = 0 then [.vsFall] else if s.lc = s.cfg.vBpStart then [.vsRise] else [] := by
  have hw := hv.vsyncWindow
  unfold vsyncEvents
  split
  next h0 => rw [if_pos (eq_true_of_ne_false (mt hw.mp (by omega)))]
  next h0 =>
  split
  next hb => rw [hw.mpr (by omega)]; rfl
  next hb => rfl

/-- The falls of one operation are its TICKs at line 0, its rises those at `V_BP_START`. -/
theorem newEvents_count_vsync {i : Instr} {s : State} (hv : VerticalInv s) :
    (newEvents i s).count .vsFall = (if i = .tick then [s.lc] else []).count 0 ∧
    (newEvents i s).count .vsRise = (if i = .tick then [s.lc] else []).count s.cfg.vBpStart := by
  obtain ⟨⟨hbp, -⟩, -⟩ := wf_iff.mp hv.cfgWf
  have hpulse : (pulseEvents s).count .vsFall = 0 ∧ (pulseEvents s).count .vsRise = 0 := by
    obtain h | h := pulseEvents_cases s <;> rw [h] <;> decide
  cases i with
  | tick =>
    simp only [newEvents, vsyncEvents_of_verticalInv hv, if_true, List.count_singleton, beq_iff_eq]
    split
    next h0 => rw [h0, if_neg (Nat.ne_of_lt hbp)]; decide
    next h0 => split <;> decide
  | hpulse => exact hpulse
  | hclk =>
    rw [newEvents]
    split
    · exact hpulse
    · exact ⟨rfl, rfl⟩
  | reset | start | stop | spur | rdlc | ppoll | pbegin | pdrive | pblank | pwait => simp [newEvents]

theorem runEvents_count_vsync {is : List Instr} {s t : State} (hv : VerticalInv s) (hf : hostFree is = true)
    (h : execSeq is s = .next t) :
    (runEvents s is).count .vsFall = (preValues s is).count 0 ∧
    (runEvents s is).count .vsRise = (preValues s is).count s.cfg.vBpStart := by
  induction is generalizing s with
  | nil => exact ⟨rfl, rfl⟩
  | cons i is ih =>
    obtain ⟨hi, hf⟩ := hostFree_cons_iff.mp hf
    obtain ⟨u, hu, his⟩ := execSeq_cons_next.mp h
    obtain ⟨hfall, hrise⟩ := ih (exec_keeps_verticalInv hv hi hu) hf his
    obtain ⟨hfall', hrise'⟩ := newEvents_count_vsync (i := i) hv
    rw [exec_cfg_eq hu] at hrise
    rw [runEvents_cons_of_next hu, preValues_cons_of_next hu]
    simp only [List.count_append, hfall, hrise, hfall', hrise', and_self]

/-- Settles O21: the pre-values are the frame's lines from LC on, round the wrap, so line 0 and line `V_BP_START` are met
once each. -/
theorem framePeriodicity : Obligations.FramePeriodicity := by
  intro s t is hwf hl hf hn h
  have hperm : (preValues s is).Perm (List.range s.cfg.vTotal) := by
    rw [preValues_eq hl hf h, hn]
    exact map_add_mod_perm_range hl
  refine ⟨?_, hperm, fun hw => ⟨runEvents s is, execSeq_log hf h, ?_⟩⟩
  · rw [execSeq_lc hl hf h, hn, Nat.add_mod_right, Nat.mod_eq_of_lt hl]
  · obtain ⟨⟨hbp, hact, hfp, htot⟩, -⟩ := wf_iff.mp hwf
    have honce (k : Nat) (hk : k < s.cfg.vTotal) : (preValues s is).count k = 1 := by
      rw [hperm.count_eq, List.count_range, if_pos hk]
    obtain ⟨hfall, hrise⟩ := runEvents_count_vsync ⟨hwf, hl, hw⟩ hf h
    rw [hfall, hrise]
    exact ⟨honce 0 (by omega), honce _ (by omega)⟩

/-! ### LINES n (R69) -/

/-- LINE from a running state with no request pending leaves one, a line further on. -/
theorem execSeq_opLine_of_inv {s : State} (h : Inv s) (hr : s.hrun = true) :
    ∃ t, execSeq opLine s = .next t ∧ Inv t ∧ t.cfg = s.cfg ∧ t.lc = (s.lc + 1) % s.cfg.vTotal ∧ t.hirq = false ∧
      t.hrun = true ∧ t.pst = s.pst := by
  have hline := execSeq_opLine hr (h.ienEqHrun.trans hr) h.lcInFrame
  refine ⟨_, hline, execSeq_keeps_inv h hline, execSeq_cfg_eq hline, ?_, by simp, by simpa using hr, by simp⟩
  rw [handlerBody_lc]
  exact nextLine_eq_mod h.lcInFrame

/-- Settles O22: by induction over the lines, each a LINE from a running state. -/
theorem linesRunFromRunningState : Obligations.LinesRunFromRunningState := by
  intro s n h hr hq
  induction n generalizing s with
  | zero => exact ⟨s, rfl, (Nat.mod_eq_of_lt h.lcInFrame).symm, hq, hr, rfl⟩
  | succ n ih =>
    obtain ⟨u, hu, hinv, hcfg, hlc, hqu, hru, hpu⟩ := execSeq_opLine_of_inv h hr
    obtain ⟨t, ht, hlt, hqt, hrt, hpt⟩ := ih u hinv hru hqu
    refine ⟨t, execSeq_append_next.mpr ⟨u, hu, ht⟩, ?_, hqt, hrt, hpt.trans hpu⟩
    rw [hlt, hcfg, hlc, Nat.mod_add_mod, Nat.add_assoc, Nat.add_comm 1 n]

end Sys2Proof.Machine
end

section
/-! PROOF. Runs without end (spec/42_pulse_generator_and_lifecycle.md R126): under F-1 and F-2 the TICKs never end, so every
line comes again, line 0 among them, and with it the fall of VSYNC (spec/40_vertical_state_machine.md R91). -/

namespace Sys2Proof.Machine

/-! ### States along a schedule -/

/-- What every taken operation keeps, an operation of a schedule keeps, taken or not. -/
theorem afterOp_keeps {P : State → Prop} {i : Instr} {s : State} (hs : P s)
    (h : ∀ t, exec i s = .next t → P t) : P (afterOp i s) := by
  cases ht : taken i s with
  | true =>
    obtain ⟨t, he⟩ := taken_iff.mp ht
    rw [afterOp_of_next he]
    exact h t he
  | false => rwa [afterOp_of_not_taken ht]

/-- A pulse boundary leaves the request pending. -/
theorem hirq_afterOp_of_pulses {i : Instr} {s : State} (h : pulses i s = true) : (afterOp i s).hirq = true := by
  have hr : s.hrun = true := by
    rw [pulses, Bool.and_eq_true] at h
    exact h.1
  obtain rfl | ⟨rfl, hw⟩ := pulses_cases h
  · rw [afterOp_of_next (execHpulse_of_hrun hr)]; rfl
  · rw [afterOp_of_next (execHclk_wraps hr (counterWraps_iff.mp hw))]; rfl

/-- An operation of a schedule that is no TICK that happens leaves LC and VSYNC. -/
theorem afterOp_lc_of_not_tick {i : Instr} {s : State} (hi : agentOf i ≠ .host) (ht : happens .tick i s = false) :
    (afterOp i s).lc = s.lc := by
  refine afterOp_keeps (P := fun t => t.lc = s.lc) rfl fun t he => (exec_vertical_eq hi (fun heq => ?_) he).1
  have hhap : happens .tick i s = true := happens_iff.mpr ⟨heq, t, he⟩
  cases ht.symm.trans hhap

/-- A TICK that happens takes LC to the next line. -/
theorem stateAt_succ_lc_of_tick {σ : Schedule} {s : State} {m : Nat}
    (h : happens .tick (σ m) (stateAt σ s m) = true) :
    (stateAt σ s (m + 1)).lc = nextLine (stateAt σ s m).cfg (stateAt σ s m).lc := by
  obtain ⟨heq, t, he⟩ := happens_iff.mp h
  rw [stateAt, afterOp_of_next he]
  rw [heq] at he
  obtain ⟨-, -, -, rfl⟩ := execTick_next he
  exact handlerBody_lc _

/-! ### A running machine that meets no HOST operation -/

section
variable {σ : Schedule} {s : State} (hinv : Inv s) (hrun : s.hrun = true) (hhost : ∀ n, agentOf (σ n) ≠ .host)
include hinv hrun hhost

theorem stateAt_inv_running (n : Nat) :
    Inv (stateAt σ s n) ∧ (stateAt σ s n).hrun = true ∧ (stateAt σ s n).cfg = s.cfg := by
  induction n with
  | zero => exact ⟨hinv, hrun, rfl⟩
  | succ n ih =>
    obtain ⟨hi, hr, hc⟩ := ih
    exact afterOp_keeps (P := fun t => Inv t ∧ t.hrun = true ∧ t.cfg = s.cfg) ⟨hi, hr, hc⟩ fun t he =>
      ⟨exec_keeps_inv hi he, (exec_running_eq (hhost n) he).1.trans hr, (exec_cfg_eq he).trans hc⟩

/-- From any moment on a TICK happens: F-1 gives two pulses, and F-2 a TICK between them. -/
theorem tick_happens_again (hpulse : GeneratorPulses σ s) (hserve : HandlerInTime σ s) (n : Nat) :
    ∃ m, n ≤ m ∧ happens .tick (σ m) (stateAt σ s m) = true := by
  have hstate := stateAt_inv_running hinv hrun hhost
  obtain ⟨m₁, hm₁, hp₁⟩ := hpulse n fun m _ => (hstate m).2.1
  obtain ⟨m₂, hm₂, hp₂⟩ := hpulse (m₁ + 1) fun m _ => (hstate m).2.1
  obtain ⟨hi, hr, -⟩ := hstate (m₁ + 1)
  obtain ⟨k, hk, -, htick⟩ := hserve (m₁ + 1) m₂ hm₂ (hi.ienEqHrun.trans hr) (hirq_afterOp_of_pulses hp₁) hp₂
  exact ⟨k, by omega, htick⟩

/-- The next TICK finds LC where it stands. -/
theorem next_tick_lc (hpulse : GeneratorPulses σ s) (hserve : HandlerInTime σ s) (n : Nat) :
    ∃ m, n ≤ m ∧ happens .tick (σ m) (stateAt σ s m) = true ∧ (stateAt σ s m).lc = (stateAt σ s n).lc := by
  obtain ⟨m, hm, htick⟩ := tick_happens_again hinv hrun hhost hpulse hserve n
  obtain ⟨d, rfl⟩ := Nat.exists_eq_add_of_le hm
  clear hm
  induction d generalizing n with
  | zero => exact ⟨n, Nat.le_refl n, htick, rfl⟩
  | succ d ih =>
    cases hnow : happens .tick (σ n) (stateAt σ s n) with
    | true => exact ⟨n, Nat.le_refl n, hnow, rfl⟩
    | false =>
      obtain ⟨m, hm, hhap, hl⟩ := ih (n + 1) (by rwa [Nat.add_assoc, Nat.add_comm 1])
      exact ⟨m, by omega, hhap, hl.trans (afterOp_lc_of_not_tick (hhost n) hnow)⟩

/-- From any moment on a TICK happens at line 0, by induction on the lines left to the wrap. -/
theorem tick_at_line_zero_again (hpulse : GeneratorPulses σ s) (hserve : HandlerInTime σ s) (n : Nat) :
    ∃ m, n ≤ m ∧ happens .tick (σ m) (stateAt σ s m) = true ∧ (stateAt σ s m).lc = 0 := by
  have hstate := stateAt_inv_running hinv hrun hhost
  obtain ⟨d, hd⟩ := Nat.exists_eq_add_of_lt ((hstate n).2.2 ▸ (hstate n).1.lcInFrame)
  induction d generalizing n with
  | zero =>
    obtain ⟨m, hm, hhap, hl⟩ := next_tick_lc hinv hrun hhost hpulse hserve n
    have hwrap := stateAt_succ_lc_of_tick hhap
    rw [nextLine_eq, hl, (hstate m).2.2, if_pos (by omega)] at hwrap
    obtain ⟨k, hk, hagain, hzero⟩ := next_tick_lc hinv hrun hhost hpulse hserve (m + 1)
    exact ⟨k, by omega, hagain, hzero.trans hwrap⟩
  | succ d ih =>
    obtain ⟨m, hm, hhap, hl⟩ := next_tick_lc hinv hrun hhost hpulse hserve n
    have hnext := stateAt_succ_lc_of_tick hhap
    rw [nextLine_eq, hl, (hstate m).2.2, if_neg (by omega)] at hnext
    obtain ⟨k, hk, hagain, hzero⟩ := ih (m + 1) (by omega)
    exact ⟨k, by omega, hagain, hzero⟩

end

/-- Settles O23: at a TICK at line 0 VSYNC is high by I-2, and the TICK takes it low. -/
theorem vsyncFallsForEver : Obligations.VsyncFallsForEver := by
  intro σ s hinv hrun hhost hpulse hserve n
  obtain ⟨m, hm, hhap, hl⟩ := tick_at_line_zero_again hinv hrun hhost hpulse hserve n
  obtain ⟨hi, -, -⟩ := stateAt_inv_running hinv hrun hhost m
  obtain ⟨heq, t, he⟩ := happens_iff.mp hhap
  have hhigh := eq_true_of_ne_false (mt hi.vsyncWindow.mp (by omega))
  refine ⟨m, hm, hhigh, ?_⟩
  rw [stateAt, afterOp_of_next he]
  rw [heq] at he
  obtain ⟨-, -, -, rfl⟩ := execTick_next he
  rw [handlerBody_vsync, if_pos hl]

end Sys2Proof.Machine
end

section
/-! PROOF. Reads in eventual mode (spec/20_memory.md R45): the value comes from HIST, RSEQ only rises, and reads that
nothing interrupts come to the newest write. -/

namespace Sys2Proof.Machine

/-! ### RSEQ only rises -/

/-- A read leaves RSEQ or moves it up. -/
theorem rseq_le_rdLC {s : State} (hv : s.cfg.lcVisibility = .eventual) (h : HistoryOk s) :
    s.rseq ≤ (rdLC s).2.rseq := by
  rw [rdLC_of_eventual hv]
  exact (readIndex_bounds h.seen).1

/-- Coherence, one operation: RSEQ is written by reads only, HOST apart. -/
theorem exec_rseq_le {i : Instr} {s t : State} (hv : s.cfg.lcVisibility = .eventual) (h : HistoryOk s)
    (hi : agentOf i ≠ .host) (he : exec i s = .next t) : s.rseq ≤ t.rseq := by
  have hread := rseq_le_rdLC hv h
  cases i with
  | hpulse => obtain ⟨-, rfl⟩ := execHpulse_next he; exact Nat.le_refl _
  | hclk => obtain ⟨-, ⟨-, rfl⟩ | ⟨-, rfl⟩⟩ := execHclk_next he <;> exact Nat.le_refl _
  | spur => obtain ⟨-, rfl⟩ := execSpur_next he; exact Nat.le_refl _
  | tick => obtain ⟨-, -, -, rfl⟩ := execTick_next he; exact Nat.le_of_eq (congrArg State.rseq (handlerBody_frame s)).symm
  | rdlc => rw [execRdlc_next he]; exact hread
  | ppoll => obtain ⟨-, ⟨-, rfl⟩ | ⟨-, rfl⟩⟩ := execPpoll_next he <;> exact hread
  | pbegin => obtain ⟨-, rfl⟩ := execPbegin_next he; exact hread
  | pdrive => obtain ⟨-, rfl⟩ := execPdrive_next he; exact Nat.le_refl _
  | pblank => obtain ⟨-, rfl⟩ := execPblank_next he; exact Nat.le_refl _
  | pwait => obtain ⟨-, ⟨-, -, rfl⟩ | ⟨-, -, rfl⟩ | ⟨-, -, rfl⟩⟩ := execPwait_next he <;> exact hread
  | reset | start | stop => exact absurd rfl hi

/-- Coherence, along a run (R45), with the invariants that carry it. -/
theorem execSeq_coherent {is : List Instr} {s t : State} (hv : s.cfg.lcVisibility = .eventual) (h : FullInv s)
    (hf : hostFree is = true) (he : execSeq is s = .next t) : FullInv t ∧ s.rseq ≤ t.rseq := by
  have hkept : FullInv t ∧ t.cfg = s.cfg ∧ s.rseq ≤ t.rseq := by
    refine execSeq_keeps (P := fun u => FullInv u ∧ u.cfg = s.cfg ∧ s.rseq ≤ u.rseq) (fun i hi u v hu hexec => ?_)
      ⟨h, rfl, Nat.le_refl _⟩ he
    obtain ⟨hfull, hc, hle⟩ := hu
    have hvu : u.cfg.lcVisibility = .eventual := by rw [hc, hv]
    exact ⟨exec_keeps_fullInv hfull hexec, (exec_cfg_eq hexec).trans hc,
      Nat.le_trans hle (exec_rseq_le hvu (hfull.history hvu) (hostFree_iff.mp hf i hi) hexec)⟩
  exact ⟨hkept.1, hkept.2.2⟩

/-! ### Reads that nothing interrupts -/

theorem execRdlc_of_eventual {s : State} (hv : s.cfg.lcVisibility = .eventual) :
    exec .rdlc s = .next { s with
      rseq := s.readIndex, freeIdx := s.freeIdx + 1, results := s.results ++ [s.histAt s.readIndex] } := by
  rw [execRdlc_answers, rdLC_of_eventual hv]

/-- Repeated reads move the counter on, and what else they write is RSEQ and the results. -/
theorem execSeq_rdlc {s : State} (hv : s.cfg.lcVisibility = .eventual) (n : Nat) :
    ∃ j rs, execSeq (List.replicate n .rdlc) s = .next { s with rseq := j, freeIdx := s.freeIdx + n, results := rs } := by
  induction n with
  | zero => exact ⟨s.rseq, s.results, rfl⟩
  | succ n ih =>
    obtain ⟨j, rs, hrun⟩ := ih
    have hlast := execRdlc_of_eventual (s := { s with rseq := j, freeIdx := s.freeIdx + n, results := rs }) hv
    rw [List.replicate_succ']
    exact ⟨_, _, execSeq_append_next.mpr ⟨_, hrun, execSeq_cons_next.mpr ⟨_, hlast, rfl⟩⟩⟩

/-- Once the law of eventual visibility is due RDLC returns the newest entry of HIST. -/
theorem execRdlc_due {s : State} (hv : s.cfg.lcVisibility = .eventual)
    (hdue : Config.visibleWithin s.readWindow ≤ s.freeIdx - s.readWindow) :
    ∃ t, exec .rdlc s = .next t ∧ t.rseq = s.wseq ∧ t.results = s.results ++ [s.histAt s.wseq] :=
  ⟨_, execRdlc_of_eventual hv, readIndex_due hdue, by rw [readIndex_due hdue]⟩

/-- Settles O25: the read by its index's bounds, coherence along the run, and visibility after as many reads as the bound
on the lag asks for. -/
theorem eventualReads : Obligations.EventualReads := by
  refine ⟨fun s hv h => ?value, fun s t is hv h hf he => ?coherent, fun s hv h => ?visible⟩
  case value =>
    obtain ⟨hlo, hhi⟩ := readIndex_bounds h.seen
    exact ⟨s.readIndex, s.histAt s.readIndex, hlo, hhi, getElem?_hist_readIndex h, rdLC_of_eventual hv⟩
  case coherent =>
    obtain ⟨hfull, hle⟩ := execSeq_coherent hv h hf he
    exact ⟨hle, (hfull.history (by rw [execSeq_cfg_eq he, hv])).seen⟩
  case visible =>
    obtain ⟨j, rs, hrun⟩ := execSeq_rdlc hv (Config.visibleWithin s.readWindow)
    have hdue : Config.visibleWithin s.readWindow ≤ s.freeIdx + Config.visibleWithin s.readWindow - s.readWindow := by
      have hw := h.window
      omega
    obtain ⟨t, ht, hr, hres⟩ := execRdlc_due (s := { s with
      rseq := j, freeIdx := s.freeIdx + Config.visibleWithin s.readWindow, results := rs }) hv hdue
    refine ⟨Config.visibleWithin s.readWindow, t, ?_, hr, ?_⟩
    · rw [List.replicate_succ', execSeq_append_next]
      exact ⟨_, hrun, execSeq_cons_next.mpr ⟨t, ht, rfl⟩⟩
    · rw [hres, List.getLast?_concat, h.newest]
      exact congrArg some (histAt_eq h.newest)

end Sys2Proof.Machine
end

section
/-! PROOF. The guards (spec/70_reset_and_hazards.md R170) and the pacer's transition relation (spec/41_pixel_pacer.md R107),
its pseudo-operation PLINE (spec/30_encoding.md R69), and its waits: the spin bound, the stopped generator and the overrun
(R106, R109). -/

namespace Sys2Proof.Machine

/-! ### Guards -/

/-- A false guard is a refusal (R8). -/
theorem exec_of_guard_false {i : Instr} {s : State} (h : opGuard i s = false) : exec i s = .refused (.notEnabled i) := by
  cases i with
  | reset | rdlc => cases h
  | start | stop | hpulse | spur | tick | ppoll | pbegin | pdrive | pblank | pwait | hclk => exact requires_false h

/-- An operation that answers a next state had its guard true. -/
theorem opGuard_of_next {i : Instr} {s t : State} (h : exec i s = .next t) : opGuard i s = true := by
  cases hg : opGuard i s with
  | true => rfl
  | false =>
    rw [exec_of_guard_false hg] at h
    cases h

/-- Under the invariants a true guard is a step: TICK finds LC in the frame, and PWAIT a line left (R31). -/
theorem exec_of_guard_true {i : Instr} {s : State} (hinv : Inv s) (h : opGuard i s = true) :
    ∃ t, exec i s = .next t := by
  cases i with
  | reset => exact ⟨_, execReset_answers s⟩
  | rdlc => exact ⟨_, execRdlc_answers s⟩
  | start | stop | hpulse | spur | pbegin | pdrive | pblank | hclk => exact ⟨_, requires_true h⟩
  | tick => exact ⟨_, (requires_true h).trans (if_pos hinv.lcInFrame)⟩
  | ppoll =>
    have hp : s.pst = .idle := beq_iff_eq.mp h
    by_cases hv : (rdLC s).1 = s.cfg.vActiveStart
    · exact ⟨_, execPpoll_hit hp hv⟩
    · exact ⟨_, execPpoll_miss hp hv⟩
  | pwait =>
    have hp : s.pst = .wait := beq_iff_eq.mp h
    have hleft : s.pleft ≠ 0 := hinv.pleft_ne_zero (by rw [hp]; nofun)
    by_cases hm : (rdLC s).1 = s.marker
    · cases hb : s.atSpinBound with
      | true => exact ⟨_, execPwait_bound hp hm hb⟩
      | false => exact ⟨_, execPwait_spins hp hm hb⟩
    · exact ⟨_, execPwait_ends hp hm hleft⟩

/-- The operations of MAIN that belong to the program point `p`; RDLC belongs to none. -/
def atPoint (p : Pst) (i : Instr) : Prop :=
  match p with
  | .idle => i = .ppoll
  | .begin => i = .pbegin
  | .drive => i = .pblank ∨ ∃ r g b, i = .pdrive r g b
  | .wait => i = .pwait

/-- An operation of MAIN that is enabled belongs to the pacer's program point. -/
theorem atPoint_of_guard {i : Instr} {s : State} (hm : agentOf i = .main) (hi : i ≠ .rdlc) (h : opGuard i s = true) :
    atPoint s.pst i := by
  cases i with
  | rdlc => exact absurd rfl hi
  | ppoll | pbegin | pwait => rw [beq_iff_eq.mp h]; exact rfl
  | pblank => rw [beq_iff_eq.mp h]; exact .inl rfl
  | pdrive r g b => rw [beq_iff_eq.mp h]; exact .inr ⟨r, g, b, rfl⟩
  | reset | start | stop | hpulse | spur | tick | hclk => cases hm

/-- The operations of one program point are one operation, or PBLANK and the PDRIVEs. -/
theorem eq_or_drive_of_atPoint {p : Pst} {i j : Instr} (hi : atPoint p i) (hj : atPoint p j) :
    i = j ∨ ((i = .pblank ∨ ∃ r g b, i = .pdrive r g b) ∧ (j = .pblank ∨ ∃ r g b, j = .pdrive r g b)) := by
  cases p with
  | idle | begin | wait => exact .inl (hi.trans hj.symm)
  | drive => exact .inr ⟨hi, hj⟩

/-- Each program point has an operation. -/
theorem exists_enabled_main (s : State) : ∃ i, agentOf i = .main ∧ i ≠ .rdlc ∧ opGuard i s = true := by
  cases hp : s.pst with
  | idle => exact ⟨.ppoll, rfl, nofun, beq_iff_eq.mpr hp⟩
  | begin => exact ⟨.pbegin, rfl, nofun, beq_iff_eq.mpr hp⟩
  | drive => exact ⟨.pblank, rfl, nofun, beq_iff_eq.mpr hp⟩
  | wait => exact ⟨.pwait, rfl, nofun, beq_iff_eq.mpr hp⟩

/-- PWAIT on another line than the marker's with no line left refuses by name (log 13). -/
theorem execPwait_none_left {s : State} (hp : s.pst = .wait) (hm : (rdLC s).1 ≠ s.marker) (hl : s.pleft = 0) :
    exec .pwait s = .refused .noLinesLeft :=
  (requires_true (beq_iff_eq.mpr hp)).trans ((if_neg hm).trans (if_pos hl))

/-- Settles O38: the guard as `requires` reads it, the branches behind it, and the program points. -/
theorem guardTable : Obligations.GuardTable :=
  ⟨fun _ _ => exec_of_guard_false, fun _ _ => exec_of_guard_true, fun _ _ _ => opGuard_of_next,
   fun _ => execPwait_none_left,
   fun _ _ _ hi hj hi' hj' gi gj => eq_or_drive_of_atPoint (atPoint_of_guard hi hi' gi) (atPoint_of_guard hj hj' gj),
   fun s => ⟨rfl, exists_enabled_main s⟩⟩

/-! ### The transition relation of PST (R107) -/

/-- The wait's end as R107 lists it: to BEGIN with lines left, to IDLE with none. -/
theorem finishLine_rows {s : State} (hl : s.pleft ≠ 0) :
    (1 < s.pleft ∧ finishLine (rdLC s).2 = { (rdLC s).2 with pst := .begin, pleft := s.pleft - 1 }) ∨
    (s.pleft = 1 ∧ finishLine (rdLC s).2 = { (rdLC s).2 with pst := .idle, pleft := 0 }) := by
  rw [finishLine_rdLC (Nat.one_le_iff_ne_zero.mpr hl), rdLC_frame]
  by_cases h1 : s.pleft = 1
  · exact .inr ⟨h1, by rw [if_pos h1, h1]⟩
  · exact .inl ⟨by omega, by rw [if_neg h1]⟩

/-- Settles O32: each operation's inversion is its rows of the table. -/
theorem pacerTransitionRelation : Obligations.PacerTransitionRelation := by
  refine ⟨fun i s t hm h => ?rows, fun i s _ => exec_of_guard_false, fun i s t => exec_pst_eq⟩
  cases i with
  | reset | start | stop | hpulse | spur | tick | hclk => cases hm
  | ppoll =>
    obtain ⟨hp, ⟨hv, rfl⟩ | ⟨hv, rfl⟩⟩ := execPpoll_next h
    · exact .inr (.inl ⟨rfl, hp, hv, rfl⟩)
    · exact .inl ⟨rfl, hp, hv, rfl⟩
  | pbegin =>
    obtain ⟨hp, rfl⟩ := execPbegin_next h
    exact .inr (.inr (.inl ⟨rfl, hp, by rw [State.logged, rdLC_snd_log]⟩))
  | pdrive r g b =>
    obtain ⟨hp, rfl⟩ := execPdrive_next h
    exact .inr (.inr (.inr (.inl ⟨r, g, b, rfl, hp, rfl⟩)))
  | pblank =>
    obtain ⟨hp, rfl⟩ := execPblank_next h
    exact .inr (.inr (.inr (.inr (.inl ⟨rfl, hp, rfl⟩))))
  | pwait =>
    obtain ⟨hp, ⟨hv, hl, rfl⟩ | ⟨hv, hb, rfl⟩ | ⟨hv, hb, rfl⟩⟩ := execPwait_next h
    · obtain ⟨hmore, hrow⟩ | ⟨hlast, hrow⟩ := finishLine_rows hl
      · exact .inr (.inr (.inr (.inr (.inr (.inr (.inr (.inl ⟨rfl, hp, hv, hmore, hrow⟩)))))))
      · exact .inr (.inr (.inr (.inr (.inr (.inr (.inr (.inr (.inl ⟨rfl, hp, hv, hlast, hrow⟩))))))))
    · exact .inr (.inr (.inr (.inr (.inr (.inr (.inl ⟨rfl, hp, hv, hb, rfl⟩))))))
    · exact .inr (.inr (.inr (.inr (.inr (.inl ⟨rfl, hp, hv, hb, rfl⟩)))))
  | rdlc => exact .inr (.inr (.inr (.inr (.inr (.inr (.inr (.inr (.inr ⟨rfl, execRdlc_next h⟩))))))))

/-! ### PLINE (R69) -/

/-- A run of PDRIVEs in DRIVE is a write of the colours. -/
theorem execSeq_pdrives {is : List Instr} (his : ∀ i ∈ is, ∃ r g b, i = .pdrive r g b) {s : State}
    (hp : s.pst = .drive) : ∃ r g b, execSeq is s = .next (setColour r g b s) := by
  induction is generalizing s with
  | nil => exact ⟨s.r, s.g, s.b, rfl⟩
  | cons i is ih =>
    obtain ⟨⟨r, g, b, rfl⟩, hrest⟩ := List.forall_mem_cons.mp his
    obtain ⟨r', g', b', hrun⟩ := ih hrest (s := setColour r g b s) hp
    exact ⟨r', g', b', execSeq_cons_next.mpr ⟨_, execPdrive_of_drive r g b hp, hrun⟩⟩

/-- Between its PBEGIN and its PBLANK, PLINE has PDRIVEs only. -/
theorem opPline_eq (nr ng nb : Nat) :
    ∃ ds, opPline nr ng nb = .pbegin :: (ds ++ [.pblank]) ∧ ∀ i ∈ ds, ∃ r g b, i = .pdrive r g b := by
  refine ⟨List.replicate nr (.pdrive true false false) ++ [.pdrive false false false]
    ++ List.replicate ng (.pdrive false true false) ++ [.pdrive false false false]
    ++ List.replicate nb (.pdrive false false true) ++ [.pdrive false false false], by simp [opPline], fun i hi => ?_⟩
  simp only [List.mem_append, List.mem_replicate, List.mem_singleton] at hi
  obtain (((((⟨-, h⟩ | h) | ⟨-, h⟩) | h) | ⟨-, h⟩) | h) := hi <;> exact ⟨_, _, _, h⟩

/-- Settles O35: PBEGIN's capture, the PDRIVEs that write colours, and PBLANK that writes them off. -/
theorem plineDrawsAndBlanks : Obligations.PlineDrawsAndBlanks := by
  intro s nr ng nb hp
  obtain ⟨ds, hline, hds⟩ := opPline_eq nr ng nb
  obtain ⟨r, g, b, hdrive⟩ := execSeq_pdrives hds
    (s := State.logged [.draw (rdLC s).1] { (rdLC s).2 with marker := (rdLC s).1, pst := .drive }) rfl
  rw [hline]
  refine execSeq_cons_next.mpr ⟨_, execPbegin_of_begin hp, execSeq_append_next.mpr ⟨_, hdrive, ?_⟩⟩
  refine execSeq_cons_next.mpr ⟨_, execPblank_of_drive rfl, ?_⟩
  rw [rdLC_frame]
  rfl

/-! ### The spin bound (R106, R157) -/

theorem rdLC_fst_of_immediate {s : State} (hv : s.cfg.lcVisibility = .immediate) : (rdLC s).1 = s.lc := by
  rw [rdLC_of_immediate hv]

theorem rdLC_snd_of_immediate {s : State} (hv : s.cfg.lcVisibility = .immediate) : (rdLC s).2 = s := by
  rw [rdLC_of_immediate hv]

/-- Below the bound each PWAIT on the marker's line counts (R106). -/
theorem execSeq_opSpin_counts {s : State} {k : Nat} (hv : s.cfg.lcVisibility = .immediate) (hp : s.pst = .wait)
    (hm : s.lc = s.marker) (hb : ∀ n, s.cfg.spinBound = some n → s.spin + k ≤ n) :
    execSeq (opSpin k) s = .next { s with spin := s.spin + k } := by
  induction k with
  | zero => rfl
  | succ k ih =>
    have hspin := execPwait_spins (s := { s with spin := s.spin + k }) hp
      ((rdLC_fst_of_immediate (by exact hv)).trans hm) (atSpinBound_eq_false_iff.mpr fun n hn => hb n hn)
    rw [rdLC_snd_of_immediate (by exact hv)] at hspin
    rw [opSpin, List.replicate_succ', execSeq_append_next]
    exact ⟨_, ih fun n hn => Nat.le_of_succ_le (hb n hn), execSeq_cons_next.mpr ⟨_, hspin, rfl⟩⟩

/-- At the bound PWAIT on the marker's line sets STUCK and nothing else (R157). -/
theorem execPwait_sets_stuck {s : State} (hv : s.cfg.lcVisibility = .immediate) (hp : s.pst = .wait)
    (hm : s.lc = s.marker) (hb : s.atSpinBound = true) : exec .pwait s = .next { s with stuck := true } := by
  rw [execPwait_bound hp ((rdLC_fst_of_immediate hv).trans hm) hb, rdLC_snd_of_immediate hv]

theorem execSeq_opSpin_stuck {s : State} {k : Nat} (hv : s.cfg.lcVisibility = .immediate) (hp : s.pst = .wait)
    (hm : s.lc = s.marker) (hb : s.atSpinBound = true) :
    execSeq (opSpin (k + 1)) s = .next { s with stuck := true } := by
  induction k with
  | zero => exact execSeq_cons_next.mpr ⟨_, execPwait_sets_stuck hv hp hm hb, rfl⟩
  | succ k ih =>
    rw [opSpin, List.replicate_succ', execSeq_append_next]
    exact ⟨_, ih, execSeq_cons_next.mpr
      ⟨_, execPwait_sets_stuck (s := { s with stuck := true }) hv hp hm hb, rfl⟩⟩

/-- Settles O34: the PWAITs up to the bound count, those beyond it set STUCK. -/
theorem spinBoundDetectsStall : Obligations.SpinBoundDetectsStall := by
  refine ⟨fun s n k hv hp hm h0 hn hk => ?counts, fun s n k hv hp hm h0 hn hk => ?stuck,
    fun s k hv hp hm hn => execSeq_opSpin_counts hv hp hm (by simp [hn])⟩
  case counts =>
    rw [execSeq_opSpin_counts hv hp hm (by simp [hn, h0, hk]), h0, Nat.zero_add]
  case stuck =>
    obtain ⟨j, rfl⟩ := Nat.exists_eq_add_of_lt hk
    have hcount := execSeq_opSpin_counts (k := n) hv hp hm (by simp [hn, h0])
    have hsplit : opSpin (n + j + 1) = opSpin n ++ opSpin (j + 1) :=
      (List.replicate_append_replicate (n := n) (m := j + 1) (a := Instr.pwait)).symm
    rw [hsplit, execSeq_append_next]
    rw [h0, Nat.zero_add] at hcount
    exact ⟨_, hcount, execSeq_opSpin_stuck hv hp hm (atSpinBound_iff.mpr ⟨n, hn, Nat.le_refl n⟩)⟩

end Sys2Proof.Machine
end

section
/-! PROOF. What the pacer's surroundings do to a wait: the stopped generator (spec/42_pulse_generator_and_lifecycle.md R123),
the overrun (spec/41_pixel_pacer.md R109), and the pending TICK that MAIN cannot hold back (spec/60_exceptions.md R147). -/

namespace Sys2Proof.Machine

/-! ### A wait with the generator stopped (R123, R106) -/

/-- The generator stopped, the interrupt disabled, and the pacer waiting on the marker's line, in immediate mode. -/
structure StoppedWait (s : State) : Prop where
  visibility : s.cfg.lcVisibility = .immediate
  halted : s.hrun = false
  disabled : s.ien = false
  waiting : s.pst = .wait
  onMarker : s.lc = s.marker

/-- Only PWAIT, which spins, and RDLC are taken there, RESET and START apart. -/
theorem StoppedWait.exec_frame {i : Instr} {s t : State} (hw : StoppedWait s) (hr : i ≠ .reset) (hs : i ≠ .start)
    (h : exec i s = .next t) : t = { s with spin := t.spin, stuck := t.stuck, results := t.results } := by
  obtain ⟨hv, hhalt, hdis, hp, hm⟩ := hw
  have hread := rdLC_of_immediate hv
  cases i with
  | reset => exact absurd rfl hr
  | start => exact absurd rfl hs
  | stop => cases hhalt.symm.trans (execStop_next h).1
  | hpulse => cases hhalt.symm.trans (execHpulse_next h).1
  | hclk => cases hhalt.symm.trans (execHclk_next h).1
  | spur => cases hdis.symm.trans (execSpur_next h).1
  | tick => cases hdis.symm.trans (execTick_next h).1
  | ppoll => cases hp.symm.trans (execPpoll_next h).1
  | pbegin => cases hp.symm.trans (execPbegin_next h).1
  | pdrive => cases hp.symm.trans (execPdrive_next h).1
  | pblank => cases hp.symm.trans (execPblank_next h).1
  | rdlc => rw [execRdlc_next h, hread]
  | pwait =>
    obtain ⟨-, ⟨hne, -, -⟩ | ⟨-, -, rfl⟩ | ⟨-, -, rfl⟩⟩ := execPwait_next h
    · exact absurd ((rdLC_fst_of_immediate hv).trans hm) hne
    · rw [hread]
    · rw [hread]

theorem StoppedWait.execSeq_stays {is : List Instr} {s t : State} (hw : StoppedWait s) (hr : .reset ∉ is)
    (hs : .start ∉ is) (h : execSeq is s = .next t) : StoppedWait t ∧ t.lc = s.lc ∧ t.pleft = s.pleft := by
  refine execSeq_keeps (P := fun u => StoppedWait u ∧ u.lc = s.lc ∧ u.pleft = s.pleft)
    (fun i hi u v hu he => ?_) ⟨hw, rfl, rfl⟩ h
  obtain ⟨hwu, hl, hleft⟩ := hu
  rw [hwu.exec_frame (ne_of_mem_of_not_mem hi hr) (ne_of_mem_of_not_mem hi hs) he]
  exact ⟨{ hwu with }, hl, hleft⟩

/-- Settles O9: every operation taken in a stopped wait leaves it one. -/
theorem stoppedWaitNeverEnds : Obligations.StoppedWaitNeverEnds :=
  fun _ _ _ hv hh hi hp hm hr hs h =>
    (StoppedWait.execSeq_stays ⟨hv, hh, hi, hp, hm⟩ hr hs h).imp_left StoppedWait.waiting

/-! ### The overrun (R109) -/

/-- PWAIT in immediate mode on another line than the marker's ends the wait. -/
theorem execPwait_off_marker {s : State} (hv : s.cfg.lcVisibility = .immediate) (hp : s.pst = .wait)
    (hl : s.pleft ≠ 0) (hm : s.lc ≠ s.marker) : exec .pwait s = .next (finishLine s) := by
  rw [execPwait_ends hp (by rwa [rdLC_fst_of_immediate hv]) hl, rdLC_snd_of_immediate hv]

/-- PWAIT in immediate mode on the marker's line goes on waiting, with the same lines left. -/
theorem execPwait_on_marker {s : State} (hv : s.cfg.lcVisibility = .immediate) (hp : s.pst = .wait)
    (hm : s.lc = s.marker) : ∃ t, exec .pwait s = .next t ∧ t.pst = .wait ∧ t.pleft = s.pleft := by
  cases hb : s.atSpinBound with
  | true => exact ⟨_, execPwait_sets_stuck hv hp hm hb, hp, rfl⟩
  | false =>
    have hspin := execPwait_spins hp ((rdLC_fst_of_immediate hv).trans hm) hb
    rw [rdLC_snd_of_immediate hv] at hspin
    exact ⟨_, hspin, hp, rfl⟩

/-- A line plus some TICKs is the line again exactly after whole frames. -/
theorem add_mod_eq_self_iff {k n v : Nat} (hk : k < v) : (k + n) % v = k ↔ n % v = 0 := by
  have hlt : n % v < v := Nat.mod_lt n (Nat.zero_lt_of_lt hk)
  rw [Nat.add_mod, Nat.mod_eq_of_lt hk]
  generalize n % v = r at hlt ⊢
  by_cases hsum : k + r < v
  · rw [Nat.mod_eq_of_lt hsum]
    omega
  · rw [Nat.mod_eq_sub_mod (by omega), Nat.mod_eq_of_lt (by omega)]
    omega

/-- Settles O33: LC is back at MARKER exactly where the TICKs are whole frames. -/
theorem overrunEndsWaitAtOnce : Obligations.OverrunEndsWaitAtOnce := by
  intro s u is hinv hv hp hm hf hl h
  obtain ⟨hpu, hmu, hleft, hstuck⟩ := execSeq_pacer_eq hf hl h
  have hvu : u.cfg.lcVisibility = .immediate := by rw [execSeq_cfg_eq h, hv]
  have hback : u.lc = u.marker ↔ is.count .tick % s.cfg.vTotal = 0 := by
    rw [hmu, hm, execSeq_lc hinv.lcInFrame hf h]
    exact add_mod_eq_self_iff hinv.lcInFrame
  have hblank := execPblank_of_drive (hpu.trans hp)
  have hsome : s.pleft ≠ 0 := hinv.pleft_ne_zero (by rw [hp]; nofun)
  by_cases hn : is.count .tick % s.cfg.vTotal = 0
  · obtain ⟨w, hw, hpw, hlw⟩ := execPwait_on_marker
      (s := { setColour false false false u with spin := 0, pst := .wait }) hvu rfl (hback.mpr hn)
    exact ⟨_, w, hblank, hw, absurd hn, fun _ => ⟨hpw, hlw.trans hleft⟩⟩
  · have hw := execPwait_off_marker (s := { setColour false false false u with spin := 0, pst := .wait })
      hvu rfl (hleft ▸ hsome) (mt hback.mp hn)
    refine ⟨_, _, hblank, hw, fun _ => ⟨rfl, hstuck, ?_, ?_⟩, fun h0 => absurd h0 hn⟩
    · exact (Nat.succ_pred (hleft ▸ hsome)).trans hleft
    · have hlast : s.pleft - 1 = 0 ↔ s.pleft = 1 := by omega
      simp [hleft, hlast]

/-! ### The pending TICK (R147) -/

/-- Settles O45: after MAIN's operations TICK's guard and its line are as before. -/
theorem pendingTickNotHeldBack : Obligations.PendingTickNotHeldBack := by
  intro s t is hi hq hl hm h
  obtain ⟨hlt, hit, hqt⟩ := execSeq_main_tick_eq hm h
  exact ⟨hlt, _, execTick_of_pending (hit.trans hi) (hqt.trans hq) (by rwa [hlt, execSeq_cfg_eq h])⟩

end Sys2Proof.Machine
end

section
/-! PROOF. The pacer under the no-overrun condition NOV (spec/41_pixel_pacer.md R108): where it stands against LC, how many
of the frame's lines it has drawn, and so what every run from the running start state draws. -/

namespace Sys2Proof.Machine

/-! ### NOV, operation by operation -/

/-- Whether a read is owed after an operation that is taken (R108, half (a)). -/
def owedAfter (owed : Bool) (i : Instr) (s : State) : Bool :=
  if i = .tick then s.pst == .idle || s.pst == .wait else owed && !pacerReads i

/-- What NOV asks of one operation: no TICK while a read is owed, and none in BEGIN or DRIVE. -/
def NovAt (owed : Bool) (i : Instr) (s : State) : Prop :=
  i = .tick → owed = false ∧ s.pst ≠ .begin ∧ s.pst ≠ .drive

/-- Both halves of NOV, with a read owed or not at the start. -/
def NovFrom (owed : Bool) (s : State) (is : List Instr) : Prop :=
  pollRate owed s is = true ∧ lineBudget s is = true

theorem novFrom_of_nov {s : State} {is : List Instr} (h : nov s is = true) : NovFrom false s is :=
  Bool.and_eq_true_iff.mp h

/-- NOV of a run is NOV of its first operation and of the rest. -/
theorem NovFrom.cons {owed : Bool} {i : Instr} {is : List Instr} {s u : State} (hu : exec i s = .next u)
    (h : NovFrom owed s (i :: is)) : NovAt owed i s ∧ NovFrom (owedAfter owed i s) u is := by
  obtain ⟨hrate, hbudget⟩ := h
  have htaken := taken_of_next hu
  simp only [lineBudget, alongRun, overruns, happens, htaken, afterOp_of_next hu, Bool.and_true, Bool.and_eq_true,
    Bool.not_eq_true', Bool.and_eq_false_iff, Bool.or_eq_false_iff, beq_eq_false_iff_ne, ne_eq] at hbudget
  simp only [pollRate, happens, htaken, afterOp_of_next hu, Bool.and_true, beq_iff_eq] at hrate
  by_cases ht : i = .tick
  · rw [if_pos ht, Bool.and_eq_true, Bool.not_eq_true'] at hrate
    obtain ⟨hpst, hrest⟩ := hbudget
    rw [owedAfter, if_pos ht]
    exact ⟨fun _ => ⟨hrate.1, hpst.resolve_left (not_not_intro ht)⟩, hrate.2, hrest⟩
  · rw [if_neg ht] at hrate
    rw [owedAfter, if_neg ht]
    exact ⟨fun htick => absurd htick ht, hrate, hbudget.2⟩

/-! ### Where the pacer stands -/

/-- The line after the frame's last active line to draw. -/
def burstEnd (c : Cfg) : Nat := c.vActiveStart + c.vActiveCount

/-- Where the pacer stands against LC under NOV, with a read owed or not: the marker and the lines left always add up to
the burst's end, and only in WAIT may LC have moved on, by one line. -/
def Paced (owed : Bool) (s : State) : Prop :=
  match s.pst with
  | .idle => s.lc = s.cfg.vActiveStart → owed = true
  | .begin => owed = false ∧ s.lc + s.pleft = burstEnd s.cfg
  | .drive => owed = false ∧ s.lc + s.pleft = burstEnd s.cfg ∧ s.lc = s.marker
  | .wait => s.marker + s.pleft = burstEnd s.cfg ∧
      ((owed = false ∧ s.lc = s.marker) ∨ (owed = true ∧ s.lc = s.marker + 1))

/-- What NOV keeps along a run in immediate mode. -/
structure NovInv (owed : Bool) (s : State) : Prop where
  inv : Inv s
  visibility : s.cfg.lcVisibility = .immediate
  paced : Paced owed s

/-- How many lines of the present frame have been drawn. -/
def linesDrawn (s : State) : Nat :=
  match s.pst with
  | .idle => if s.lc ≤ s.cfg.vActiveStart then 0 else s.cfg.vActiveCount
  | .begin => s.cfg.vActiveCount - s.pleft
  | .drive | .wait => s.cfg.vActiveCount - s.pleft + 1

section
variable {s : State}

theorem paced_idle_iff {owed : Bool} (hp : s.pst = .idle) :
    Paced owed s ↔ (s.lc = s.cfg.vActiveStart → owed = true) := by
  rw [Paced, hp]

theorem paced_begin_iff {owed : Bool} (hp : s.pst = .begin) :
    Paced owed s ↔ owed = false ∧ s.lc + s.pleft = burstEnd s.cfg := by
  rw [Paced, hp]

theorem paced_drive_iff {owed : Bool} (hp : s.pst = .drive) :
    Paced owed s ↔ owed = false ∧ s.lc + s.pleft = burstEnd s.cfg ∧ s.lc = s.marker := by
  rw [Paced, hp]

theorem paced_wait_iff {owed : Bool} (hp : s.pst = .wait) :
    Paced owed s ↔ s.marker + s.pleft = burstEnd s.cfg ∧
      ((owed = false ∧ s.lc = s.marker) ∨ (owed = true ∧ s.lc = s.marker + 1)) := by
  rw [Paced, hp]

theorem linesDrawn_of_idle (hp : s.pst = .idle) :
    linesDrawn s = if s.lc ≤ s.cfg.vActiveStart then 0 else s.cfg.vActiveCount := by
  rw [linesDrawn, hp]

theorem linesDrawn_of_begin (hp : s.pst = .begin) : linesDrawn s = s.cfg.vActiveCount - s.pleft := by
  rw [linesDrawn, hp]

theorem linesDrawn_of_drive (hp : s.pst = .drive) : linesDrawn s = s.cfg.vActiveCount - s.pleft + 1 := by
  rw [linesDrawn, hp]

theorem linesDrawn_of_wait (hp : s.pst = .wait) : linesDrawn s = s.cfg.vActiveCount - s.pleft + 1 := by
  rw [linesDrawn, hp]

/-- Where the pacer stands is a matter of the configuration, PST, LC, the lines left and the marker. -/
theorem paced_congr {owed : Bool} {t : State} (hc : t.cfg = s.cfg) (hp : t.pst = s.pst) (hl : t.lc = s.lc)
    (hleft : t.pleft = s.pleft) (hm : t.marker = s.marker) : Paced owed t ↔ Paced owed s := by
  rw [Paced, Paced, hc, hp, hl, hleft, hm]

theorem linesDrawn_congr {t : State} (hc : t.cfg = s.cfg) (hp : t.pst = s.pst) (hl : t.lc = s.lc)
    (hleft : t.pleft = s.pleft) : linesDrawn t = linesDrawn s := by
  rw [linesDrawn, linesDrawn, hc, hp, hl, hleft]

end

/-- The draws of a frame that has `n` lines drawn. -/
def drawsOf (c : Cfg) (n : Nat) : List Nat := List.range' c.vActiveStart n

/-- The burst begins after line 0 and ends inside the active phase, before the frame's last line. -/
theorem burst_bounds {s : State} (h : Inv s) :
    0 < s.cfg.vActiveStart ∧ 1 ≤ s.cfg.vActiveCount ∧ s.cfg.vActiveStart + s.cfg.vActiveCount ≤ s.cfg.vFpStart ∧
      s.cfg.vActiveStart + s.cfg.vActiveCount < s.cfg.vTotal := by
  obtain ⟨⟨hbp, hact, hfp, htot⟩, ⟨hone, hcount⟩, -⟩ := wf_iff.mp h.cfgWf
  omega

theorem novInv_of_runningStart {s : State} (h : RunningStart s) (hv : s.cfg.lcVisibility = .immediate) :
    NovInv false s ∧ linesDrawn s = 0 := by
  obtain ⟨hwf, hl, hvs, hc, ⟨hn, hq, hi, hr⟩, hp, hleft, -⟩ := h
  have hinv := Inv.of_idleValues hwf ⟨hl, hvs, hc, ⟨hn, hq, hi.trans hr.symm⟩, hp, hleft⟩
  have hpos := (burst_bounds hinv).1
  refine ⟨⟨hinv, hv, ?_⟩, ?_⟩
  · rw [paced_idle_iff hp]
    omega
  · rw [linesDrawn_of_idle hp, if_pos (by omega)]

/-! ### The operations that leave the pacer -/

/-- An operation that is no TICK and leaves the pacer leaves where it stands. -/
theorem NovInv.step_of_leavesPacer {owed : Bool} {i : Instr} {s t : State} (h : NovInv owed s)
    (hi : agentOf i ≠ .host) (ht : i ≠ .tick) (hl : leavesPacer i) (he : exec i s = .next t) :
    Paced (owedAfter owed i s) t ∧ linesDrawn t = linesDrawn s := by
  obtain ⟨hp, hm, hleft, -⟩ := exec_pacer_eq hi hl he
  have hlc := (exec_vertical_eq hi ht he).1
  have hc := exec_cfg_eq he
  have hreads : pacerReads i = false := by
    obtain ⟨hppoll, hpbegin, -, hpwait⟩ := hl
    simp [pacerReads, hppoll, hpbegin, hpwait]
  have howed : owedAfter owed i s = owed := by simp [owedAfter, ht, hreads]
  rw [howed]
  exact ⟨(paced_congr hc hp hlc hleft hm).mpr h.paced, linesDrawn_congr hc hp hlc hleft⟩

/-! ### The handler under NOV -/

/-- A TICK that NOV allows leaves the lines drawn, or it ends a frame that has all its lines drawn. -/
theorem NovInv.handlerBody {owed : Bool} {s : State} (h : NovInv owed s) (hn : NovAt owed .tick s) :
    Paced (owedAfter owed .tick s) (handlerBody s) ∧
      ((s.lc + 1 < s.cfg.vTotal ∧ linesDrawn (handlerBody s) = linesDrawn s) ∨
       (s.lc + 1 = s.cfg.vTotal ∧ linesDrawn s = s.cfg.vActiveCount ∧ linesDrawn (handlerBody s) = 0)) := by
  obtain ⟨hnone, hnb, hnd⟩ := hn rfl
  obtain ⟨-, -, -, hend⟩ := burst_bounds h.inv
  have hlc := h.inv.lcInFrame
  have hpaced := h.paced
  have hnext := nextLine_eq s.cfg s.lc
  have hpt := handlerBody_pst s
  cases hp : s.pst with
  | idle =>
    rw [hp] at hpt
    rw [paced_idle_iff hp, hnone] at hpaced
    have hne : s.lc ≠ s.cfg.vActiveStart := fun hl => Bool.false_ne_true (hpaced hl)
    rw [paced_idle_iff hpt, linesDrawn_of_idle hp, linesDrawn_of_idle hpt, handlerBody_lc, handlerBody_cfg, hnext]
    refine ⟨fun _ => by simp [owedAfter, hp], ?_⟩
    split <;> split <;> split <;> omega
  | begin => exact absurd hp hnb
  | drive => exact absurd hp hnd
  | wait =>
    rw [hp] at hpt
    rw [paced_wait_iff hp, hnone] at hpaced
    obtain ⟨hsum, ⟨-, hon⟩ | ⟨howed, -⟩⟩ := hpaced
    · have hsome : s.pleft ≠ 0 := h.inv.pleft_ne_zero (by rw [hp]; nofun)
      have hinside : s.lc + 1 < s.cfg.vTotal := by
        rw [burstEnd] at hsum
        omega
      rw [if_neg (Nat.ne_of_lt hinside)] at hnext
      rw [paced_wait_iff hpt, linesDrawn_of_wait hp, linesDrawn_of_wait hpt, handlerBody_lc, hnext, handlerBody_frame]
      exact ⟨⟨hsum, .inr ⟨by simp [owedAfter, hp], congrArg (· + 1) hon⟩⟩, .inl ⟨hinside, rfl⟩⟩
    · cases howed

/-! ### The pacer's own operations -/

theorem NovInv.ppoll {owed : Bool} {s t : State} (h : NovInv owed s) (he : exec .ppoll s = .next t) :
    Paced false t ∧ linesDrawn t = linesDrawn s := by
  obtain ⟨hp, ⟨hv, rfl⟩ | ⟨hv, rfl⟩⟩ := execPpoll_next he
  all_goals
    rw [rdLC_fst_of_immediate h.visibility] at hv
    rw [rdLC_snd_of_immediate h.visibility]
  · rw [paced_begin_iff rfl, linesDrawn_of_begin rfl, linesDrawn_of_idle hp, if_pos (Nat.le_of_eq hv)]
    exact ⟨⟨rfl, congrArg (· + _) hv⟩, Nat.sub_self _⟩
  · rw [paced_idle_iff hp]
    exact ⟨fun hl => absurd hl hv, rfl⟩

/-- PBEGIN draws LC, which is the next line of the burst. -/
theorem NovInv.pbegin {owed : Bool} {s t : State} (h : NovInv owed s) (he : exec .pbegin s = .next t) :
    Paced false t ∧ s.lc = s.cfg.vActiveStart + linesDrawn s ∧ linesDrawn t = linesDrawn s + 1 := by
  obtain ⟨hp, rfl⟩ := execPbegin_next he
  have hbound := h.inv.pleftBounded
  have hpaced := h.paced
  rw [paced_begin_iff hp] at hpaced
  obtain ⟨-, hsum⟩ := hpaced
  rw [rdLC_of_immediate h.visibility, paced_drive_iff rfl, linesDrawn_of_begin hp,
    linesDrawn_of_drive rfl]
  refine ⟨⟨rfl, hsum, rfl⟩, ?_, rfl⟩
  rw [burstEnd] at hsum
  omega

theorem NovInv.pblank {owed : Bool} {s t : State} (h : NovInv owed s) (he : exec .pblank s = .next t) :
    Paced owed t ∧ linesDrawn t = linesDrawn s := by
  obtain ⟨hp, rfl⟩ := execPblank_next he
  have hpaced := h.paced
  rw [paced_drive_iff hp] at hpaced
  obtain ⟨hnone, hsum, hon⟩ := hpaced
  rw [paced_wait_iff rfl, linesDrawn_of_wait rfl, linesDrawn_of_drive hp]
  exact ⟨⟨hon ▸ hsum, .inl ⟨hnone, hon⟩⟩, rfl⟩

/-- PWAIT where LC has moved on ends the line, which stays counted as drawn. -/
theorem NovInv.finishLine {owed : Bool} {s : State} (h : NovInv owed s) (hp : s.pst = .wait) (hm : s.lc ≠ s.marker) :
    Paced false (finishLine s) ∧ linesDrawn (finishLine s) = linesDrawn s := by
  obtain ⟨-, hone, -⟩ := burst_bounds h.inv
  have hbound := h.inv.pleftBounded
  have hsome : s.pleft ≠ 0 := h.inv.pleft_ne_zero (by rw [hp]; nofun)
  have hpaced := h.paced
  rw [paced_wait_iff hp] at hpaced
  obtain ⟨hsum, ⟨-, hon⟩ | ⟨-, hnext⟩⟩ := hpaced
  · exact absurd hon hm
  rw [burstEnd] at hsum
  by_cases hlast : s.pleft - 1 = 0
  · have hpt : (Machine.finishLine s).pst = .idle := if_pos hlast
    rw [paced_idle_iff hpt, linesDrawn_of_idle hpt, linesDrawn_of_wait hp, finishLine_lc, finishLine_cfg,
      if_neg (by omega)]
    exact ⟨fun hl => absurd hl (by omega), by omega⟩
  · have hpt : (Machine.finishLine s).pst = .begin := if_neg hlast
    rw [paced_begin_iff hpt, linesDrawn_of_begin hpt, linesDrawn_of_wait hp, finishLine_lc, finishLine_cfg,
      finishLine_pleft, burstEnd]
    exact ⟨⟨rfl, by omega⟩, by omega⟩

theorem NovInv.pwait {owed : Bool} {s t : State} (h : NovInv owed s) (he : exec .pwait s = .next t) :
    Paced false t ∧ linesDrawn t = linesDrawn s := by
  obtain ⟨hp, hcases⟩ := execPwait_next he
  have hpaced := h.paced
  rw [paced_wait_iff hp] at hpaced
  rw [rdLC_of_immediate h.visibility] at hcases
  obtain ⟨hm, -, rfl⟩ | ⟨hm, -, rfl⟩ | ⟨hm, -, rfl⟩ := hcases
  · exact h.finishLine hp hm
  all_goals
    obtain ⟨-, ⟨rfl, -⟩ | ⟨-, hnext⟩⟩ := hpaced
    · exact ⟨(paced_congr rfl rfl rfl rfl rfl).mpr h.paced, linesDrawn_congr rfl rfl rfl rfl⟩
    · exact absurd (hm.symm.trans hnext) (Nat.ne_of_lt (Nat.lt_succ_self _))

/-! ### One operation, and a run -/

theorem drawMarkers_append (es fs : List Event) : drawMarkers (es ++ fs) = drawMarkers es ++ drawMarkers fs :=
  List.filterMap_append

/-- Only PBEGIN draws (R9). -/
theorem drawMarkers_newEvents {i : Instr} (s : State) (hb : i ≠ .pbegin) : drawMarkers (newEvents i s) = [] := by
  have hpulse : drawMarkers (pulseEvents s) = [] := by
    obtain h | h := pulseEvents_cases s <;> rw [h] <;> rfl
  cases i with
  | pbegin => exact absurd rfl hb
  | hpulse => exact hpulse
  | hclk =>
    rw [newEvents]
    split
    · exact hpulse
    · rfl
  | tick => obtain h | h | h := vsyncEvents_cases s <;> rw [newEvents, h] <;> rfl
  | reset | start | stop | spur | rdlc | ppoll | pdrive | pblank | pwait => rfl

/-- With `n` TICKs from `s` to `t`, the lines drawn in the frame of `s` and the draws `ds` are the draws of the frames
that end between, and of the frame of `t`. -/
def DrawBalance (s : State) (n : Nat) (ds : List Nat) (t : State) : Prop :=
  drawsOf s.cfg (linesDrawn s) ++ ds =
    (List.replicate ((s.lc + n) / s.cfg.vTotal) (drawsOf s.cfg s.cfg.vActiveCount)).flatten
      ++ drawsOf s.cfg (linesDrawn t)

theorem DrawBalance.trans {s u t : State} {n m : Nat} {ds es : List Nat} (hc : u.cfg = s.cfg)
    (hl : u.lc = (s.lc + n) % s.cfg.vTotal) (hpos : 0 < s.cfg.vTotal) (h : DrawBalance s n ds u)
    (h' : DrawBalance u m es t) : DrawBalance s (n + m) (ds ++ es) t := by
  unfold DrawBalance at *
  have hframes : (s.lc + (n + m)) / s.cfg.vTotal = (s.lc + n) / s.cfg.vTotal + (u.lc + m) / s.cfg.vTotal := by
    have hdiv := Nat.div_add_mod (s.lc + n) s.cfg.vTotal
    rw [← hl] at hdiv
    rw [← Nat.mul_add_div hpos, ← Nat.add_assoc, ← Nat.add_assoc, hdiv]
  rw [hc] at h'
  rw [hframes, ← List.replicate_append_replicate, List.flatten_append, ← List.append_assoc, h, List.append_assoc, List.append_assoc, h']

/-- An operation that is no TICK and draws nothing. -/
theorem DrawBalance.of_kept {i : Instr} {s t : State} (hl : s.lc < s.cfg.vTotal) (ht : i ≠ .tick) (hb : i ≠ .pbegin)
    (h : linesDrawn t = linesDrawn s) : DrawBalance s ([i].count .tick) (drawMarkers (newEvents i s)) t := by
  have hnone : [i].count .tick = 0 := List.count_eq_zero.mpr (by simpa using Ne.symm ht)
  rw [DrawBalance, drawMarkers_newEvents s hb, hnone, h, Nat.add_zero, Nat.div_eq_of_lt hl, List.append_nil]
  rfl

theorem NovInv.tick {owed : Bool} {s t : State} (h : NovInv owed s) (hn : NovAt owed .tick s)
    (he : exec .tick s = .next t) :
    Paced (owedAfter owed .tick s) t ∧
      DrawBalance s ([Instr.tick].count .tick) (drawMarkers (newEvents .tick s)) t := by
  obtain ⟨-, -, -, rfl⟩ := execTick_next he
  obtain ⟨hpaced, hcase⟩ := h.handlerBody hn
  refine ⟨hpaced, ?_⟩
  rw [DrawBalance, drawMarkers_newEvents (i := .tick) s nofun, List.append_nil, List.count_singleton_self]
  obtain ⟨hinside, hkept⟩ | ⟨hwrap, hfull, hzero⟩ := hcase
  · rw [hkept, Nat.div_eq_of_lt hinside]
    rfl
  · rw [hwrap, hfull, hzero, Nat.div_self (Nat.zero_lt_of_lt h.inv.lcInFrame)]
    simp [drawsOf]

theorem NovInv.pbegin_balance {owed : Bool} {s t : State} (h : NovInv owed s) (he : exec .pbegin s = .next t) :
    DrawBalance s ([Instr.pbegin].count .tick) (drawMarkers (newEvents .pbegin s)) t := by
  obtain ⟨-, hlc, hone⟩ := h.pbegin he
  have hdraw : drawMarkers (newEvents .pbegin s) = [s.lc] := by
    rw [newEvents, rdLC_fst_of_immediate h.visibility]
    rfl
  have hnone : [Instr.pbegin].count .tick = 0 := rfl
  have hconcat : drawsOf s.cfg (linesDrawn s + 1) = drawsOf s.cfg (linesDrawn s) ++ [s.lc] := by
    rw [hlc]
    exact List.range'_1_concat
  rw [DrawBalance, hdraw, hone, hnone, Nat.add_zero, Nat.div_eq_of_lt h.inv.lcInFrame, hconcat]
  rfl

/-- One operation that NOV allows keeps where the pacer stands, and the balance of the draws. -/
theorem NovInv.step {owed : Bool} {i : Instr} {s t : State} (h : NovInv owed s) (hi : agentOf i ≠ .host)
    (hn : NovAt owed i s) (he : exec i s = .next t) :
    NovInv (owedAfter owed i s) t ∧ DrawBalance s ([i].count .tick) (drawMarkers (newEvents i s)) t := by
  have hl := h.inv.lcInFrame
  suffices hstep : Paced (owedAfter owed i s) t ∧
      DrawBalance s ([i].count .tick) (drawMarkers (newEvents i s)) t from
    ⟨⟨exec_keeps_inv h.inv he, by rw [exec_cfg_eq he]; exact h.visibility, hstep.1⟩, hstep.2⟩
  -- After an operation that reads LC no read is owed.
  have hread (hr : owedAfter owed i s = false) (hp : Paced false t) : Paced (owedAfter owed i s) t := hr ▸ hp
  cases i with
  | tick => exact h.tick hn he
  | ppoll =>
    obtain ⟨hp, hk⟩ := h.ppoll he
    exact ⟨hread (Bool.and_false _) hp, .of_kept hl nofun nofun hk⟩
  | pbegin => exact ⟨hread (Bool.and_false _) (h.pbegin he).1, h.pbegin_balance he⟩
  | pblank =>
    obtain ⟨hp, hk⟩ := h.pblank he
    have howed : owedAfter owed .pblank s = owed := Bool.and_true owed
    exact ⟨by rwa [howed], .of_kept hl nofun nofun hk⟩
  | pwait =>
    obtain ⟨hp, hk⟩ := h.pwait he
    exact ⟨hread (Bool.and_false _) hp, .of_kept hl nofun nofun hk⟩
  | hpulse | hclk | spur | rdlc | pdrive =>
    obtain ⟨hp, hk⟩ := h.step_of_leavesPacer hi nofun ⟨nofun, nofun, nofun, nofun⟩ he
    exact ⟨hp, .of_kept hl nofun nofun hk⟩
  | reset | start | stop => exact absurd rfl hi

/-- A run that meets NOV keeps where the pacer stands, and the balance of the draws. -/
theorem NovInv.run {owed : Bool} {is : List Instr} {s t : State} (h : NovInv owed s) (hf : hostFree is = true)
    (hn : NovFrom owed s is) (he : execSeq is s = .next t) :
    (∃ owed', NovInv owed' t) ∧ DrawBalance s (is.count .tick) (drawMarkers (runEvents s is)) t := by
  induction is generalizing s owed with
  | nil =>
    cases he
    refine ⟨⟨owed, h⟩, ?_⟩
    rw [DrawBalance, List.count_nil, Nat.add_zero, Nat.div_eq_of_lt h.inv.lcInFrame]
    exact List.append_nil _
  | cons i is ih =>
    obtain ⟨hi, hf⟩ := hostFree_cons_iff.mp hf
    obtain ⟨u, hu, his⟩ := execSeq_cons_next.mp he
    obtain ⟨hat, hrest⟩ := hn.cons hu
    obtain ⟨hinv, hbal⟩ := h.step hi hat hu
    obtain ⟨hend, hbal'⟩ := ih hinv hf hrest his
    refine ⟨hend, ?_⟩
    rw [count_tick_cons, runEvents_cons_of_next hu, drawMarkers_append]
    exact hbal.trans (exec_cfg_eq hu) (exec_lc h.inv.lcInFrame hi hu) (Nat.zero_lt_of_lt h.inv.lcInFrame) hbal'

/-! ### Draws in the active phase, colours off at the TICKs (R108, items 2 and 3) -/

/-- No frame has more lines drawn than its count. -/
theorem linesDrawn_le {s : State} (h : Inv s) : linesDrawn s ≤ s.cfg.vActiveCount := by
  have hbound := h.pleftBounded
  cases hp : s.pst with
  | idle => rw [linesDrawn_of_idle hp]; split <;> omega
  | begin => rw [linesDrawn_of_begin hp]; omega
  | drive =>
    have hsome := h.pleft_ne_zero (by rw [hp]; nofun)
    rw [linesDrawn_of_drive hp]
    omega
  | wait =>
    have hsome := h.pleft_ne_zero (by rw [hp]; nofun)
    rw [linesDrawn_of_wait hp]
    omega

theorem mem_drawsOf {c : Cfg} {n m : Nat} : m ∈ drawsOf c n ↔ c.vActiveStart ≤ m ∧ m < c.vActiveStart + n :=
  List.mem_range'_1

/-- The draws that balance are lines of the burst. -/
theorem DrawBalance.mem_burst {s t : State} {n m : Nat} {ds : List Nat} (h : DrawBalance s n ds t) (ht : Inv t)
    (hc : t.cfg = s.cfg) (hm : m ∈ ds) : m ∈ drawsOf s.cfg s.cfg.vActiveCount := by
  have hmem := List.mem_append_right (drawsOf s.cfg (linesDrawn s)) hm
  rw [DrawBalance] at h
  rw [h, List.mem_append, List.mem_flatten] at hmem
  obtain ⟨frame, hframe, hmf⟩ | hlast := hmem
  · rwa [(List.mem_replicate.mp hframe).2] at hmf
  · have hle := linesDrawn_le ht
    rw [hc] at hle
    rw [mem_drawsOf] at hlast ⊢
    omega

/-- A line of the burst is in the active phase. -/
theorem phase_of_mem_burst {s : State} (h : Inv s) {m : Nat} (hm : m ∈ drawsOf s.cfg s.cfg.vActiveCount) :
    phase s.cfg m = some .active := by
  obtain ⟨-, -, hfp, -⟩ := burst_bounds h
  obtain ⟨hlo, hhi⟩ := mem_drawsOf.mp hm
  exact phase_of_mem_interval h.cfgWf hlo (Nat.lt_of_lt_of_le hhi hfp)

/-- NOV lets no TICK start with a colour driven: outside of DRIVE the colours are off. -/
theorem NovInv.dark_at_tick {owed : Bool} {i : Instr} {s : State} (h : NovInv owed s) (hn : NovAt owed i s) :
    (!(i == .tick && lit s)) = true := by
  by_cases ht : i = .tick
  · obtain ⟨hr, hg, hb⟩ := h.inv.coloursOff (hn ht).2.2
    simp [lit, hr, hg, hb]
  · simp [ht]

theorem NovInv.dark_along_run {owed : Bool} {is : List Instr} {s t : State} (h : NovInv owed s)
    (hf : hostFree is = true) (hn : NovFrom owed s is) (he : execSeq is s = .next t) :
    alongRun (fun i u => !(i == .tick && lit u)) s is = true := by
  induction is generalizing s owed with
  | nil => rfl
  | cons i is ih =>
    obtain ⟨hi, hf⟩ := hostFree_cons_iff.mp hf
    obtain ⟨u, hu, his⟩ := execSeq_cons_next.mp he
    obtain ⟨hat, hrest⟩ := hn.cons hu
    rw [alongRun, afterOp_of_next hu, h.dark_at_tick hat, ih (h.step hi hat hu).1 hf hrest his]
    rfl

/-- Settles O36: the balance makes every draw a line of the burst, and a TICK finds the pacer outside of DRIVE. -/
theorem drawsOnlyInActivePhase : Obligations.DrawsOnlyInActivePhase := by
  intro s t is hs hv hf he hn
  obtain ⟨hinv, -⟩ := novInv_of_runningStart hs hv
  obtain ⟨⟨_, hend⟩, hbal⟩ := hinv.run hf (novFrom_of_nov hn) he
  exact ⟨⟨runEvents s is, execSeq_log hf he,
      fun m hm => phase_of_mem_burst hinv.inv (hbal.mem_burst hend.inv (execSeq_cfg_eq he) hm)⟩,
    hinv.dark_along_run hf (novFrom_of_nov hn) he⟩

/-! ### Whole frames (R108, item 1) -/

/-- On line 0 no line of the frame has been drawn. -/
theorem NovInv.linesDrawn_at_line_zero {owed : Bool} {s : State} (h : NovInv owed s) (h0 : s.lc = 0) :
    linesDrawn s = 0 := by
  obtain ⟨hpos, -⟩ := burst_bounds h.inv
  have hbound := h.inv.pleftBounded
  have hpaced := h.paced
  cases hp : s.pst with
  | idle => rw [linesDrawn_of_idle hp, if_pos (by omega)]
  | begin => rw [paced_begin_iff hp, burstEnd] at hpaced; omega
  | drive => rw [paced_drive_iff hp, burstEnd] at hpaced; omega
  | wait => rw [paced_wait_iff hp, burstEnd] at hpaced; omega

/-- Settles O37: the balance from line 0 to line 0, with nothing drawn of either's frame. -/
theorem everyFrameDrawsItsLines : Obligations.EveryFrameDrawsItsLines := by
  intro s t is n hs hv hf he hn hcount
  obtain ⟨hinv, hstart⟩ := novInv_of_runningStart hs hv
  obtain ⟨⟨_, hend⟩, hbal⟩ := hinv.run hf (novFrom_of_nov hn) he
  have hlt : t.lc = 0 := by
    rw [execSeq_lc hinv.inv.lcInFrame hf he, hcount, hs.line, Nat.zero_add, Nat.mul_mod_left]
  refine ⟨runEvents s is, execSeq_log hf he, ?_⟩
  rw [DrawBalance, hstart, hend.linesDrawn_at_line_zero hlt, hs.line, hcount, Nat.zero_add,
    Nat.mul_div_cancel _ (Nat.zero_lt_of_lt hinv.inv.lcInFrame)] at hbal
  simpa [drawsOf] using hbal

end Sys2Proof.Machine
end

section
/-! PROOF. The access rights (spec/10_state.md R29): the values each agent writes to the items it may write. -/

namespace Sys2Proof.Machine

/-- HOST writes the idle values only: LC 0, VSYNC 1, HIRQ 0, HCNT 0, the colours off, STUCK 0 by RESET. -/
theorem host_writes_idle_values {i : Instr} {s t : State} (hi : agentOf i = .host) (h : exec i s = .next t) :
    (t.lc = s.lc ∨ t.lc = 0) ∧ (t.vsync = s.vsync ∨ t.vsync = true) ∧ t.hirq = false ∧
    (t.hcnt = s.hcnt ∨ t.hcnt = 0) ∧
    ((t.r = s.r ∧ t.g = s.g ∧ t.b = s.b) ∨ (t.r = false ∧ t.g = false ∧ t.b = false)) ∧
    (t.stuck = s.stuck ∨ (i = .reset ∧ t.stuck = false)) := by
  cases i with
  | reset =>
    obtain ⟨hl, hv, hc, ⟨hn, hq, -⟩, -⟩ := idleValues_of_reset h
    exact ⟨.inr hl, .inr hv, hq, .inr hn, .inr hc, .inr ⟨rfl, execReset_stuck h⟩⟩
  | start =>
    obtain ⟨hl, hv, hc, ⟨hn, hq, -⟩, -⟩ := idleValues_of_start h
    exact ⟨.inr hl, .inr hv, hq, .inr hn, .inr hc, .inl (exec_stuck_eq (i := .start) nofun nofun h)⟩
  | stop =>
    obtain ⟨-, rfl⟩ := execStop_next h
    exact ⟨.inl rfl, .inl rfl, rfl, .inl rfl, .inl ⟨rfl, rfl, rfl⟩, .inl rfl⟩
  | hpulse | hclk | spur | tick | rdlc | ppoll | pbegin | pdrive | pblank | pwait => cases hi

/-- HGEN and ENV only set HIRQ. -/
theorem request_only_raised {i : Instr} {s t : State} (hi : agentOf i = .hgen ∨ agentOf i = .env)
    (h : exec i s = .next t) : t.hirq = s.hirq ∨ t.hirq = true := by
  cases i with
  | hpulse => obtain ⟨-, rfl⟩ := execHpulse_next h; exact .inr rfl
  | hclk =>
    obtain ⟨-, ⟨-, rfl⟩ | ⟨-, rfl⟩⟩ := execHclk_next h
    · exact .inr rfl
    · exact .inl rfl
  | spur => obtain ⟨-, rfl⟩ := execSpur_next h; exact .inr rfl
  | reset | start | stop | tick | rdlc | ppoll | pbegin | pdrive | pblank | pwait => obtain hi | hi := hi <;> cases hi

/-- MAIN only sets STUCK. -/
theorem execMain_stuck {i : Instr} {s t : State} (hm : agentOf i = .main) (h : exec i s = .next t) :
    t.stuck = s.stuck ∨ t.stuck = true := by
  by_cases hp : i = .pwait
  · subst hp
    exact (execPwait_stuck h).imp_right fun hb => hb.2.2.2
  · exact .inl (exec_stuck_eq (by rintro rfl; cases hm) hp h)

/-- Settles O42: each operation's frame, and the values it writes. -/
theorem accessRights : Obligations.AccessRights :=
  ⟨fun _ _ _ _ => copyItem_eq_of_not_mayWrite, fun _ _ _ => host_writes_idle_values, fun _ _ _ => request_only_raised,
   fun s t h => by
     obtain ⟨-, -, -, rfl⟩ := execTick_next h
     rw [handlerBody_frame]
     exact ⟨rfl, rfl⟩,
   fun _ _ _ => execMain_stuck⟩

end Sys2Proof.Machine
end

section
/-! PROOF. What is not read (spec/10_state.md R29): no operation answers differently for what its agent
neither reads nor writes, none reads the log (spec/00_scope.md R9), and MARKER is not read before its capture
(spec/93_implementation_defined.md U2). -/

namespace Sys2Proof.Machine

/-! ### The operations that branch on the mode, as one write of fields -/

/-- A read, both modes in one: the value, RSEQ and the counter. -/
theorem rdLC_eq (s : State) :
    rdLC s = (if s.cfg.lcVisibility = .eventual then s.histAt s.readIndex else s.lc,
      { s with
        rseq := if s.cfg.lcVisibility = .eventual then s.readIndex else s.rseq
        freeIdx := if s.cfg.lcVisibility = .eventual then s.freeIdx + 1 else s.freeIdx }) := by
  cases h : s.cfg.lcVisibility with
  | immediate => exact rdLC_of_immediate h
  | eventual => exact rdLC_of_eventual h

/-- The restart of the history, both modes in one. -/
theorem restartHistory_eq (s : State) :
    restartHistory s = { s with
      wseq := if s.cfg.lcVisibility = .eventual then 0 else s.wseq
      rseq := if s.cfg.lcVisibility = .eventual then 0 else s.rseq
      hist := if s.cfg.lcVisibility = .eventual then [0] else s.hist
      readWindow := if s.cfg.lcVisibility = .eventual then s.freeIdx else s.readWindow } := by
  cases h : s.cfg.lcVisibility with
  | immediate => exact restartHistory_of_immediate h
  | eventual => exact restartHistory_of_eventual h

/-- The handler, both modes in one. -/
theorem handlerBody_eq (s : State) :
    handlerBody s = { s with
      hcnt := 0, hirq := false, lc := nextLine s.cfg s.lc
      vsync := if s.lc = 0 then false else if s.lc = s.cfg.vBpStart then true else s.vsync
      log := s.log ++ vsyncEvents s
      wseq := if s.cfg.lcVisibility = .eventual then s.wseq + 1 else s.wseq
      hist := if s.cfg.lcVisibility = .eventual then s.hist ++ [nextLine s.cfg s.lc] else s.hist
      readWindow := if s.cfg.lcVisibility = .eventual then s.freeIdx else s.readWindow } := by
  have hframe := handlerBody_frame s
  rw [updateVsync_vsync, updateVsync_log] at hframe
  cases h : s.cfg.lcVisibility with
  | immediate =>
    obtain ⟨hw, hh, hr⟩ := handlerBody_of_immediate h
    rwa [hw, hh, hr] at hframe
  | eventual =>
    obtain ⟨hw, hh, hr⟩ := handlerBody_of_eventual h
    rwa [hw, hh, hr] at hframe

/-! ### A change of the state that goes through an operation -/

/-- A change goes through a guard it does not touch when it goes through what the guard guards. -/
theorem requires_commutes {f : State → State} {p q : Bool} {i : Instr} {k l : Result} (hp : q = p)
    (hk : l = mapNext f k) : requires q i l = mapNext f (requires p i k) := by
  rw [hp, hk, mapNext_requires]

/-- Two changes that agree on the answered state answer the same. -/
theorem mapNext_congr {f g : State → State} {r : Result} (h : ∀ t, r = .next t → f t = g t) :
    mapNext f r = mapNext g r := by
  cases r with
  | next t => exact congrArg _ (h t rfl)
  | fault why => rfl
  | refused why => rfl

/-! ### MAIN: what lies outside the pacer -/

/-- `s` with what MAIN neither reads nor writes as `u` has it, and the log `l`. -/
def withOutside (u : State) (l : List Event) (s : State) : State :=
  { s with vsync := u.vsync, hirq := u.hirq, hcnt := u.hcnt, hrun := u.hrun, ien := u.ien, log := l }

theorem rdLC_withOutside (u : State) (l : List Event) (s : State) :
    rdLC (withOutside u l s) = ((rdLC s).1, withOutside u l (rdLC s).2) := by
  rw [rdLC_eq, rdLC_eq]
  rfl

/-- What MAIN does is the same whatever lies outside the pacer and stands in the log. -/
theorem execMain_withOutside {i : Instr} (hm : agentOf i = .main) (u : State) (l : List Event) (s : State) :
    exec i (withOutside u l s) = mapNext (withOutside u (l ++ newEvents i s)) (exec i s) := by
  cases i with
  | rdlc => simp only [exec, execRdlc, rdLC_withOutside, newEvents, List.append_nil]; rfl
  | ppoll =>
    refine requires_commutes rfl ?_
    simp only [rdLC_withOutside, apply_ite (mapNext _), newEvents, List.append_nil]
    rfl
  | pbegin =>
    refine requires_commutes rfl ?_
    simp only [rdLC_withOutside]
    rfl
  | pdrive | pblank =>
    refine requires_commutes rfl ?_
    rw [newEvents, List.append_nil]
    rfl
  | pwait =>
    refine requires_commutes rfl ?_
    simp only [rdLC_withOutside, apply_ite (mapNext _), newEvents, List.append_nil]
    rfl
  | reset | start | stop | hpulse | spur | tick | hclk => cases hm

/-- An item that MAIN neither reads nor writes lies outside the pacer. -/
theorem copyItem_eq_withOutside {x : Item} (hr : mayRead .main x = false) (hw : mayWrite .main x = false) (u s : State) :
    copyItem x u s = withOutside (copyItem x u s) s.log s := by
  cases x with
  | vsync | hirq | hcnt | hrun | ien => rfl
  | lc | config => cases hr
  | colour | pacer | stuck => cases hw

theorem execMain_copyItem {i : Instr} {x : Item} (hm : agentOf i = .main) (hr : mayRead .main x = false)
    (hw : mayWrite .main x = false) (u s : State) :
    exec i (copyItem x u s) = mapNext (copyItem x u) (exec i s) := by
  rw [copyItem_eq_withOutside hr hw, execMain_withOutside hm]
  refine mapNext_congr fun t ht => ?_
  rw [← exec_log (by rintro rfl; cases hm) ht, execMain_frame hm ht]
  cases x with
  | vsync | hirq | hcnt | hrun | ien => rfl
  | lc | config => cases hr
  | colour | pacer | stuck => cases hw

/-! ### The generator, the environment, the handler -/

theorem execHgen_copyItem {i : Instr} {x : Item} (hi : agentOf i = .hgen) (hr : mayRead .hgen x = false)
    (hw : mayWrite .hgen x = false) (u s : State) :
    exec i (copyItem x u s) = mapNext (copyItem x u) (exec i s) := by
  cases i with
  | hpulse =>
    cases x with
    | lc | vsync | colour | ien | pacer | stuck => exact requires_commutes rfl rfl
    | hirq | hcnt => cases hw
    | hrun | config => cases hr
  | hclk =>
    cases x with
    | lc | vsync | colour | ien | pacer | stuck =>
      refine requires_commutes rfl (congrArg _ ?_)
      rw [apply_ite (copyItem _ u)]
      rfl
    | hirq | hcnt => cases hw
    | hrun | config => cases hr
  | reset | start | stop | spur | tick | rdlc | ppoll | pbegin | pdrive | pblank | pwait => cases hi

theorem execSpur_copyItem {x : Item} (hr : mayRead .env x = false) (hw : mayWrite .env x = false) (u s : State) :
    exec .spur (copyItem x u s) = mapNext (copyItem x u) (exec .spur s) := by
  cases x with
  | lc | vsync | colour | hcnt | hrun | pacer | stuck | config => exact requires_commutes rfl rfl
  | hirq => cases hw
  | ien => cases hr

/-- TICK answers alike in two states that agree on what it tests and whose handlers agree but for `f`. -/
theorem execTick_commutes {f : State → State} {s u : State} (hg : (u.ien && u.hirq) = (s.ien && s.hirq))
    (hl : u.lc = s.lc) (hc : u.cfg = s.cfg) (hb : handlerBody u = f (handlerBody s)) :
    exec .tick u = mapNext f (exec .tick s) := by
  refine requires_commutes hg ?_
  rw [hl, hc, hb, apply_ite (mapNext f)]
  rfl

theorem execTick_copyItem {x : Item} (hr : mayRead .irq x = false) (hw : mayWrite .irq x = false) (u s : State) :
    exec .tick (copyItem x u s) = mapNext (copyItem x u) (exec .tick s) := by
  cases x with
  | colour | hrun | pacer | stuck =>
    refine execTick_commutes rfl rfl rfl ?_
    rw [handlerBody_eq, handlerBody_eq]
    rfl
  | ien | config => cases hr
  | lc | vsync | hirq | hcnt => cases hw

/-- HOST reads or writes every item. -/
theorem host_reaches_every_item (x : Item) : mayRead .host x = true ∨ mayWrite .host x = true := by
  cases x <;> decide

/-- Settles O43: agent by agent. -/
theorem unreadItemsHaveNoInfluence : Obligations.UnreadItemsHaveNoInfluence := by
  intro i s u x hr hw
  cases i with
  | reset | start | stop =>
    obtain h | h := host_reaches_every_item x
    · cases hr.symm.trans h
    · cases hw.symm.trans h
  | hpulse | hclk => exact execHgen_copyItem rfl hr hw u s
  | spur => exact execSpur_copyItem hr hw u s
  | tick => exact execTick_copyItem hr hw u s
  | rdlc | ppoll | pbegin | pdrive | pblank | pwait => exact execMain_copyItem rfl hr hw u s

/-! ### The log (R9) -/

/-- `s` with the log `l`. -/
def withLog (l : List Event) (s : State) : State := { s with log := l }

/-- What an operation but RESET does is the same whatever stands in the log: its events go to the end. -/
theorem exec_withLog {i : Instr} (hr : i ≠ .reset) (l : List Event) (s : State) :
    exec i (withLog l s) = mapNext (withLog (l ++ newEvents i s)) (exec i s) := by
  cases i with
  | reset => exact absurd rfl hr
  | start =>
    refine requires_commutes rfl (congrArg _ ?_)
    rw [newEvents, List.append_nil, restartHistory_eq, restartHistory_eq]
    rfl
  | stop =>
    refine requires_commutes rfl ?_
    rw [newEvents, List.append_nil]
    rfl
  | hpulse | spur => exact requires_commutes rfl rfl
  | hclk =>
    have hw : (withLog l s).counterWraps = s.counterWraps := rfl
    refine requires_commutes rfl (congrArg _ ?_)
    rw [hw, newEvents]
    cases s.counterWraps with
    | true => rfl
    | false => exact congrArg (fun es => withLog es { s with hcnt := s.hcnt + 1 }) (List.append_nil l).symm
  | tick =>
    refine execTick_commutes rfl rfl rfl ?_
    rw [handlerBody_eq, handlerBody_eq]
    rfl
  | rdlc | ppoll | pbegin | pdrive | pblank | pwait =>
    have hout : withLog l s = withOutside s l s := rfl
    rw [hout, execMain_withOutside rfl]
    refine mapNext_congr fun t ht => ?_
    rw [execMain_frame rfl ht]
    rfl

/-- The events of an operation are those of its row of the table (R9). -/
theorem mayLog_of_mem_newEvents {i : Instr} {s : State} {e : Event} (he : e ∈ newEvents i s) : mayLog i e = true := by
  have hpulse (h : e ∈ pulseEvents s) : e = .missed ∨ e = .pulse := by
    obtain hp | hp := pulseEvents_cases s <;> rw [hp] at h
    · simpa using h
    · exact .inr (List.mem_singleton.mp h)
  cases i with
  | hpulse => obtain rfl | rfl := hpulse he <;> rfl
  | hclk =>
    rw [newEvents] at he
    split at he
    · obtain rfl | rfl := hpulse he <;> rfl
    · cases he
  | spur => rw [List.mem_singleton.mp he]; rfl
  | tick =>
    obtain h | h | h := vsyncEvents_cases s <;> rw [newEvents, h] at he
    · rw [List.mem_singleton.mp he]; rfl
    · rw [List.mem_singleton.mp he]; rfl
    · cases he
  | pbegin => rw [List.mem_singleton.mp he]; rfl
  | reset | start | stop | rdlc | ppoll | pdrive | pblank | pwait => cases he

/-- RESET empties the log (R121). -/
theorem execReset_log {s t : State} (h : exec .reset s = .next t) : t.log = [] := by
  rw [execReset_next h, restartHistory_frame]; rfl

/-- Settles O48: the events of each operation by its row of R9's table; with a longer log the events go to its end. -/
theorem logIsWrittenNeverRead : Obligations.LogIsWrittenNeverRead := by
  refine ⟨fun i s t hr h => ⟨newEvents i s, exec_log hr h, fun e => mayLog_of_mem_newEvents⟩, fun s t => execReset_log,
    fun i s es hr => ?_⟩
  refine (exec_withLog hr (es ++ s.log) s).trans (mapNext_congr fun t ht => ?_)
  rw [exec_log hr ht, ← List.append_assoc]
  rfl

/-! ### MARKER before its capture (R22, U2) -/

/-- `s` with `m` in MARKER. -/
def withMarker (m : Nat) (s : State) : State := { s with marker := m }

theorem rdLC_withMarker (m : Nat) (s : State) : rdLC (withMarker m s) = ((rdLC s).1, withMarker m (rdLC s).2) := by
  rw [rdLC_eq, rdLC_eq]
  rfl

/-- PST stands where MARKER has been captured and PWAIT may come to read it. -/
def Captured (s : State) : Prop := s.pst = .drive ∨ s.pst = .wait

/-- Only PBEGIN takes the pacer to where MARKER is captured (R107). -/
theorem captured_of_next {i : Instr} {s t : State} (hb : i ≠ .pbegin) (h : exec i s = .next t) (ht : Captured t) :
    Captured s := by
  unfold Captured at *
  cases i with
  | pbegin => exact absurd rfl hb
  | reset => rw [(idleValues_of_reset h).pacer.1] at ht; obtain ht | ht := ht <;> cases ht
  | start => rw [(idleValues_of_start h).pacer.1] at ht; obtain ht | ht := ht <;> cases ht
  | stop => obtain ⟨-, rfl⟩ := execStop_next h; exact ht
  | hpulse | hclk | spur | tick => rwa [exec_pst_eq (by decide) (by decide) h] at ht
  | rdlc => rwa [execRdlc_next h, rdLC_frame] at ht
  | ppoll =>
    obtain ⟨-, ⟨-, rfl⟩ | ⟨-, rfl⟩⟩ := execPpoll_next h
    · obtain ht | ht := ht <;> cases ht
    · rwa [rdLC_snd_pst] at ht
  | pdrive => exact .inl (execPdrive_next h).1
  | pblank => exact .inl (execPblank_next h).1
  | pwait => exact .inr (execPwait_next h).1

/-- RESET and PBEGIN write MARKER, so they answer the same with any value in it. -/
theorem exec_withMarker_overwrites {i : Instr} (hi : i = .reset ∨ i = .pbegin) (m : Nat) (s : State) :
    exec i (withMarker m s) = exec i s := by
  obtain rfl | rfl := hi
  · rfl
  · rw [exec, execPbegin, rdLC_withMarker]; rfl

/-- The other operations, PWAIT apart, carry MARKER along and do not read it. -/
theorem exec_withMarker_carries {i : Instr} (hr : i ≠ .reset) (hb : i ≠ .pbegin) (hw : i ≠ .pwait) (m : Nat)
    (s : State) :
    exec i (withMarker m s) = mapNext (withMarker m) (exec i s) := by
  cases i with
  | reset => exact absurd rfl hr
  | pbegin => exact absurd rfl hb
  | pwait => exact absurd rfl hw
  | start =>
    refine requires_commutes rfl (congrArg _ ?_)
    rw [restartHistory_eq, restartHistory_eq]
    rfl
  | stop | hpulse | spur | pdrive | pblank => exact requires_commutes rfl rfl
  | hclk =>
    refine requires_commutes rfl (congrArg _ ?_)
    rw [apply_ite (withMarker m)]
    rfl
  | tick =>
    refine execTick_commutes rfl rfl rfl ?_
    rw [handlerBody_eq, handlerBody_eq]
    rfl
  | rdlc => rw [execRdlc_answers, execRdlc_answers, rdLC_withMarker]; rfl
  | ppoll =>
    refine requires_commutes rfl ?_
    simp only [rdLC_withMarker, apply_ite (mapNext _)]
    rfl

/-- Two states that differ at most in MARKER, and do not differ where it is captured. -/
structure MarkerUnread (s u : State) : Prop where
  same : u = withMarker u.marker s
  captured : Captured s → u = s

theorem MarkerUnread.refl (s : State) : MarkerUnread s s := ⟨rfl, fun _ => rfl⟩

/-- An operation taken in one is taken in the other, to two such states again. -/
theorem MarkerUnread.step {i : Instr} {s u t : State} (hu : MarkerUnread s u) (h : exec i s = .next t) :
    ∃ v, exec i u = .next v ∧ MarkerUnread t v := by
  by_cases hc : Captured s
  · rw [hu.captured hc]
    exact ⟨t, h, .refl t⟩
  rw [hu.same]
  by_cases hover : i = .reset ∨ i = .pbegin
  · exact ⟨t, (exec_withMarker_overwrites hover _ s).trans h, .refl t⟩
  · obtain ⟨hr, hb⟩ := not_or.mp hover
    have hw : i ≠ .pwait := by
      rintro rfl
      exact hc (.inr (execPwait_next h).1)
    refine ⟨withMarker u.marker t, ?_, rfl, fun ht => absurd (captured_of_next hb h ht) hc⟩
    rw [exec_withMarker_carries hr hb hw, h]
    exact rfl

theorem MarkerUnread.run {is : List Instr} {s u t : State} (hu : MarkerUnread s u) (h : execSeq is s = .next t) :
    ∃ v, execSeq is u = .next v ∧ MarkerUnread t v := by
  induction is generalizing s u with
  | nil => cases h; exact ⟨u, rfl, hu⟩
  | cons i is ih =>
    obtain ⟨s', hs', his⟩ := execSeq_cons_next.mp h
    obtain ⟨u', hu', hsame⟩ := hu.step hs'
    obtain ⟨v, hv, hend⟩ := ih hsame his
    exact ⟨v, execSeq_cons_next.mpr ⟨u', hu', hv⟩, hend⟩

/-- Settles O47: a run from IDLE begins where MARKER is not captured, and its steps keep the two states alike. -/
theorem markerUnreadBeforeCapture : Obligations.MarkerUnreadBeforeCapture := by
  intro s t is m hp h
  have hstart : MarkerUnread s (withMarker m s) := by
    refine ⟨rfl, fun hc => ?_⟩
    rw [Captured, hp] at hc
    obtain hc | hc := hc <;> cases hc
  obtain ⟨u, hu, hend⟩ := hstart.run h
  exact ⟨u, hu, hend.same, hend.captured⟩

end Sys2Proof.Machine
end

section
/-! PROOF. Two views of a run: without the pacer (spec/00_scope.md section 5), and at the line level
(spec/42_pulse_generator_and_lifecycle.md R129). -/

namespace Sys2Proof.Machine

/-! ### The vertical signal without the pacer (R88, R111, R147) -/

/-- Two states with the same vertical signal, generator, interrupt and configuration. -/
structure SameSignal (u s : State) : Prop where
  lc : u.lc = s.lc
  vsync : u.vsync = s.vsync
  hrun : u.hrun = s.hrun
  ien : u.ien = s.ien
  hirq : u.hirq = s.hirq
  hcnt : u.hcnt = s.hcnt
  cfg : u.cfg = s.cfg

/-- The log without its draws. -/
def signalLog (es : List Event) : List Event := es.filter fun e => !mayLog .pbegin e

theorem signalLog_append (es fs : List Event) : signalLog (es ++ fs) = signalLog es ++ signalLog fs :=
  List.filter_append ..

/-- An operation of MAIN leaves the signal, its draws being no part of it. -/
theorem SameSignal.main {i : Instr} {u s t : State} (hu : SameSignal u s) (hm : agentOf i = .main)
    (h : exec i s = .next t) : SameSignal u t ∧ signalLog t.log = signalLog s.log := by
  constructor
  · rw [execMain_frame hm h]
    exact { hu with }
  · rw [exec_log (by rintro rfl; cases hm) h, signalLog_append]
    cases i with
    | reset | start | stop | hpulse | spur | tick | hclk => cases hm
    | rdlc | ppoll | pbegin | pdrive | pblank | pwait => exact List.append_nil _

theorem SameSignal.counterWraps_eq {u s : State} (hu : SameSignal u s) : u.counterWraps = s.counterWraps := by
  rw [State.counterWraps, State.counterWraps, hu.hcnt, hu.cfg]

/-- The handler moves the signal by the signal only. -/
theorem SameSignal.handlerBody {u s : State} (hu : SameSignal u s) : SameSignal (handlerBody u) (handlerBody s) := by
  obtain ⟨hl, hv, hr, hi, -, -, hc⟩ := hu
  rw [handlerBody_eq, handlerBody_eq]
  exact ⟨by rw [hl, hc], by rw [hl, hv, hc], hr, hi, rfl, rfl, hc⟩

/-- HCLK on the same signal: both counters count, or both wrap. -/
theorem SameSignal.hclk {u s t : State} (hu : SameSignal u s) (h : exec .hclk s = .next t) :
    ∃ v, exec .hclk u = .next v ∧ SameSignal v t := by
  obtain ⟨hr, ⟨hw, rfl⟩ | ⟨hw, rfl⟩⟩ := execHclk_next h
  · have hwu := counterWraps_iff.mp (hu.counterWraps_eq.trans hw)
    exact ⟨_, execHclk_wraps (hu.hrun.trans hr) hwu, { hu with hirq := rfl, hcnt := rfl }⟩
  · have hwu : u.hcnt + 1 ≠ u.cfg.hPeriod := by
      rw [← hu.counterWraps_eq, ← Bool.not_eq_true, counterWraps_iff] at hw
      exact hw
    exact ⟨_, execHclk_counts (hu.hrun.trans hr) hwu, { hu with hcnt := congrArg (· + 1) hu.hcnt }⟩

/-- An operation that is not MAIN's is taken on the same signal, to the same signal. -/
theorem SameSignal.step {i : Instr} {u s t : State} (hu : SameSignal u s) (hm : agentOf i ≠ .main)
    (h : exec i s = .next t) : ∃ v, exec i u = .next v ∧ SameSignal v t := by
  cases i with
  | reset =>
    refine ⟨_, execReset_answers u, ?_⟩
    rw [execReset_next h, restartHistory_eq, restartHistory_eq (freeMarker _)]
    exact ⟨rfl, rfl, rfl, rfl, rfl, rfl, hu.cfg⟩
  | start =>
    obtain ⟨hr, hwf, rfl⟩ := execStart_next h
    refine ⟨_, execStart_of_stopped (hu.hrun.trans hr) (by rw [hu.cfg, hwf]), ?_⟩
    rw [restartHistory_eq, restartHistory_eq (setRunning _ _)]
    exact ⟨rfl, rfl, rfl, rfl, rfl, rfl, hu.cfg⟩
  | stop =>
    obtain ⟨hr, rfl⟩ := execStop_next h
    exact ⟨_, execStop_of_hrun (hu.hrun.trans hr), { hu with hrun := rfl, ien := rfl, hirq := rfl }⟩
  | hpulse =>
    obtain ⟨hr, rfl⟩ := execHpulse_next h
    exact ⟨_, execHpulse_of_hrun (hu.hrun.trans hr), { hu with hirq := rfl }⟩
  | spur =>
    obtain ⟨hi, rfl⟩ := execSpur_next h
    exact ⟨_, execSpur_of_ien (hu.ien.trans hi), { hu with hirq := rfl }⟩
  | tick =>
    obtain ⟨hi, hq, hl, rfl⟩ := execTick_next h
    exact ⟨_, execTick_of_pending (hu.ien.trans hi) (hu.hirq.trans hq) (by rwa [hu.lc, hu.cfg]), hu.handlerBody⟩
  | hclk => exact hu.hclk h
  | rdlc | ppoll | pbegin | pdrive | pblank | pwait => exact absurd rfl hm

/-- The events of an operation that is not MAIN's depend on the signal only. -/
theorem SameSignal.newEvents_eq {i : Instr} {u s : State} (hu : SameSignal u s) (hm : agentOf i ≠ .main) :
    newEvents i u = newEvents i s := by
  have hpulse : pulseEvents u = pulseEvents s := by rw [pulseEvents, pulseEvents, hu.hirq]
  cases i with
  | hpulse => exact hpulse
  | hclk => rw [newEvents, newEvents, hu.counterWraps_eq, hpulse]
  | tick => rw [newEvents, newEvents, vsyncEvents, vsyncEvents, hu.lc, hu.vsync, hu.cfg]
  | reset | start | stop | spur => rfl
  | rdlc | ppoll | pbegin | pdrive | pblank | pwait => exact absurd rfl hm

/-- Its events go to logs that stay alike but for the draws; RESET empties both. -/
theorem SameSignal.step_log {i : Instr} {u s t v : State} (hu : SameSignal u s) (hm : agentOf i ≠ .main)
    (hlog : signalLog u.log = signalLog s.log) (ht : exec i s = .next t) (hv : exec i u = .next v) :
    signalLog v.log = signalLog t.log := by
  by_cases hr : i = .reset
  · subst hr
    rw [execReset_log ht, execReset_log hv]
  · rw [exec_log hr ht, exec_log hr hv, signalLog_append, signalLog_append, hlog, hu.newEvents_eq hm]

/-- A run and the run without MAIN keep the signal the same. -/
theorem SameSignal.run {is : List Instr} {u s t : State} (hu : SameSignal u s)
    (hlog : signalLog u.log = signalLog s.log) (h : execSeq is s = .next t) :
    ∃ v, execSeq (is.filter fun i => agentOf i != .main) u = .next v ∧ SameSignal v t ∧
      signalLog v.log = signalLog t.log := by
  induction is generalizing u s with
  | nil => cases h; exact ⟨u, rfl, hu, hlog⟩
  | cons i is ih =>
    obtain ⟨s', hs', his⟩ := execSeq_cons_next.mp h
    by_cases hm : agentOf i = .main
    · obtain ⟨hsame, hkept⟩ := hu.main hm hs'
      rw [List.filter_cons_of_neg (by simp [hm])]
      exact ih hsame (hlog.trans hkept.symm) his
    · obtain ⟨u', hu', hsame⟩ := hu.step hm hs'
      obtain ⟨v, hv, hend⟩ := ih hsame (hu.step_log hm hlog hs' hu') his
      rw [List.filter_cons_of_pos (by simp [hm])]
      exact ⟨v, execSeq_cons_next.mpr ⟨u', hu', hv⟩, hend⟩

/-- Settles O44: the run without MAIN, begun in the same state. -/
theorem signalIndependentOfPacer : Obligations.SignalIndependentOfPacer := by
  intro s t is h
  obtain ⟨v, hv, ⟨hl, hvs, hr, hi, hq, hn, hc⟩, hlog⟩ :=
    SameSignal.run ⟨rfl, rfl, rfl, rfl, rfl, rfl, rfl⟩ rfl h
  exact ⟨v, hv, hl, hvs, hr, hi, hq, hn, hc, hlog⟩

/-! ### The counter erased (R129) -/

/-- With HCNT erased every operation but HCLK does what it does with it. -/
theorem exec_eraseCounter {i : Instr} (hi : i ≠ .hclk) (s : State) :
    exec i (eraseCounter s) = mapNext eraseCounter (exec i s) := by
  cases i with
  | hclk => exact absurd rfl hi
  | reset => rw [execReset_answers, execReset_answers, restartHistory_eq, restartHistory_eq]; rfl
  | start =>
    refine requires_commutes rfl (congrArg _ ?_)
    rw [restartHistory_eq, restartHistory_eq]
    rfl
  | stop | hpulse => exact requires_commutes rfl rfl
  | spur => exact execSpur_copyItem (x := .hcnt) rfl rfl (eraseCounter s) s
  | tick =>
    refine execTick_commutes rfl rfl rfl ?_
    rw [handlerBody_eq, handlerBody_eq]
    rfl
  | rdlc | ppoll | pbegin | pdrive | pblank | pwait =>
    exact execMain_copyItem (x := .hcnt) rfl rfl rfl (eraseCounter s) s

/-- HCLK on wrap is HPULSE with HCNT erased, and HCLK inside the period is nothing. -/
theorem execHclk_eraseCounter {s t : State} (h : exec .hclk s = .next t) :
    (s.counterWraps = true ∧ exec .hpulse (eraseCounter s) = .next (eraseCounter t)) ∨
    (s.counterWraps = false ∧ eraseCounter t = eraseCounter s) := by
  obtain ⟨hr, ⟨hw, rfl⟩ | ⟨hw, rfl⟩⟩ := execHclk_next h
  · exact .inl ⟨hw, execHpulse_of_hrun hr⟩
  · exact .inr ⟨hw, rfl⟩

/-- The line-level image of one operation. -/
def lineImageOp (s : State) (i : Instr) : List Instr :=
  if i = .hclk then (if s.counterWraps then [.hpulse] else []) else [i]

theorem hclk_not_mem_lineImageOp (s : State) (i : Instr) : Instr.hclk ∉ lineImageOp s i := by
  unfold lineImageOp
  split
  · split <;> decide
  next hi => simpa using Ne.symm hi

theorem hclk_not_mem_lineImage (s : State) (is : List Instr) : Instr.hclk ∉ lineImage s is := by
  induction is generalizing s with
  | nil => exact List.not_mem_nil
  | cons i is ih => exact fun h => (List.mem_append.mp h).elim (hclk_not_mem_lineImageOp s i) (ih _)

/-- The image of an operation is a run from the erased state to the erased next state. -/
theorem execSeq_lineImageOp {i : Instr} {s t : State} (h : exec i s = .next t) :
    execSeq (lineImageOp s i) (eraseCounter s) = .next (eraseCounter t) := by
  unfold lineImageOp
  by_cases hi : i = .hclk
  · subst hi
    rw [if_pos rfl]
    obtain ⟨hw, hpulse⟩ | ⟨hw, hsame⟩ := execHclk_eraseCounter h
    · rw [if_pos hw]
      exact execSeq_cons_next.mpr ⟨_, hpulse, rfl⟩
    · rw [if_neg (by simp [hw]), hsame]
      rfl
  · rw [if_neg hi]
    refine execSeq_cons_next.mpr ⟨_, ?_, rfl⟩
    rw [exec_eraseCounter hi, h]
    rfl

theorem execSeq_lineImage {is : List Instr} {s t : State} (h : execSeq is s = .next t) :
    execSeq (lineImage s is) (eraseCounter s) = .next (eraseCounter t) := by
  induction is generalizing s with
  | nil => cases h; rfl
  | cons i is ih =>
    obtain ⟨u, hu, his⟩ := execSeq_cons_next.mp h
    rw [lineImage, afterOp_of_next hu]
    exact execSeq_append_next.mpr ⟨_, execSeq_lineImageOp hu, ih his⟩

/-- Settles O50: the image runs from the erased state to the erased state. -/
theorem tickLevelRefinesLineLevel : Obligations.TickLevelRefinesLineLevel :=
  fun s t is h => ⟨hclk_not_mem_lineImage s is, eraseCounter t, execSeq_lineImage h, rfl⟩

/-! ### A tick-level run for a line-level run (R129) -/

/-- The image of a run is the images of its parts. -/
theorem lineImage_append {is js : List Instr} {s t : State} (h : execSeq is s = .next t) :
    lineImage s (is ++ js) = lineImage s is ++ lineImage t js := by
  induction is generalizing s with
  | nil => cases h; rfl
  | cons i is ih =>
    obtain ⟨u, hu, his⟩ := execSeq_cons_next.mp h
    rw [List.cons_append, lineImage, lineImage, afterOp_of_next hu, ih his, List.append_assoc]

/-- The time units left of a period have one HPULSE as their image. -/
theorem lineImage_hclk_to_wrap {s : State} {n : Nat} (hr : s.hrun = true) (hn : s.hcnt + (n + 1) = s.cfg.hPeriod) :
    lineImage s (List.replicate (n + 1) .hclk) = [.hpulse] := by
  induction n generalizing s with
  | zero =>
    have hw := counterWraps_iff.mpr hn
    simp [lineImage, hw]
  | succ n ih =>
    have hne : s.hcnt + 1 ≠ s.cfg.hPeriod := by omega
    have hw : ¬ s.counterWraps = true := mt counterWraps_iff.mp hne
    rw [List.replicate_succ, lineImage, if_pos rfl, if_neg hw, afterOp_of_next (execHclk_counts hr hne)]
    exact ih (s := { s with hcnt := s.hcnt + 1 }) hr (by simp only; omega)

/-- What answers a next state after a change answered one before it. -/
theorem exists_next_of_mapNext {f : State → State} {r : Result} {t : State} (h : mapNext f r = .next t) :
    ∃ v, r = .next v ∧ f v = t := by
  cases r with
  | next v => exact ⟨v, rfl, Host.Outcome.next.inj h⟩
  | fault why => cases h
  | refused why => cases h

/-- HPULSE at the tick level: the time units left of the period (R129). -/
theorem exists_tick_level_hpulse {s t w : State} (hw : Inv w) (hs : eraseCounter w = eraseCounter s)
    (h : exec .hpulse s = .next t) :
    ∃ (ks : List Instr) (v : State), Instr.hpulse ∉ ks ∧ execSeq ks w = .next v ∧ lineImage w ks = [.hpulse] ∧
      eraseCounter v = eraseCounter t := by
  obtain ⟨hr, rfl⟩ := execHpulse_next h
  have hrw : w.hrun = true := (congrArg State.hrun hs).trans hr
  obtain ⟨n, hn⟩ := Nat.exists_eq_add_of_lt hw.hcntInPeriod
  refine ⟨List.replicate (n + 1) .hclk, pulseBoundary (rebaseline w), ?_, execSeq_hclk_to_wrap hrw hn.symm,
    lineImage_hclk_to_wrap hrw hn.symm, congrArg pulseBoundary hs⟩
  exact fun hmem => absurd (List.eq_of_mem_replicate hmem) nofun

/-- Each line-level operation has a tick-level run, from any state that differs in HCNT only. -/
theorem exists_tick_level_op {i : Instr} {s t w : State} (hw : Inv w) (hs : eraseCounter w = eraseCounter s)
    (hi : i ≠ .hclk) (h : exec i s = .next t) :
    ∃ (ks : List Instr) (v : State), Instr.hpulse ∉ ks ∧ execSeq ks w = .next v ∧ lineImage w ks = [i] ∧
      eraseCounter v = eraseCounter t := by
  by_cases hp : i = .hpulse
  · subst hp
    exact exists_tick_level_hpulse hw hs h
  · have herase := exec_eraseCounter hi w
    rw [hs, exec_eraseCounter hi s, h] at herase
    obtain ⟨v, hv, hvt⟩ := exists_next_of_mapNext herase.symm
    exact ⟨[i], v, by simpa using Ne.symm hp, execSeq_cons_next.mpr ⟨v, hv, rfl⟩, by simp [lineImage, hi], hvt⟩

theorem exists_tick_level_run {is : List Instr} {s t w : State} (hw : Inv w) (hs : eraseCounter w = eraseCounter s)
    (hi : .hclk ∉ is) (h : execSeq is s = .next t) :
    ∃ (ks : List Instr) (u : State), Instr.hpulse ∉ ks ∧ execSeq ks w = .next u ∧ lineImage w ks = is ∧
      eraseCounter u = eraseCounter t := by
  induction is generalizing s w with
  | nil => cases h; exact ⟨[], w, List.not_mem_nil, rfl, rfl, hs⟩
  | cons i is ih =>
    obtain ⟨hne, hrest⟩ := List.ne_and_not_mem_of_not_mem_cons hi
    obtain ⟨s', hs', his⟩ := execSeq_cons_next.mp h
    obtain ⟨ks, v, hks, hv, himage, hsame⟩ := exists_tick_level_op hw hs (Ne.symm hne) hs'
    obtain ⟨js, u, hjs, hu, himage', hend⟩ := ih (execSeq_keeps_inv hw hv) hsame hrest his
    refine ⟨ks ++ js, u, ?_, execSeq_append_next.mpr ⟨v, hv, hu⟩, ?_, hend⟩
    · simp [hks, hjs]
    · rw [lineImage_append hv, himage, himage']
      rfl

/-- Settles O51: operation by operation, each HPULSE as the time units left of its period. -/
theorem lineLevelIsImageOfTickLevel : Obligations.LineLevelIsImageOfTickLevel :=
  fun _ _ _ hinv hi h => exists_tick_level_run hinv rfl hi h

end Sys2Proof.Machine
end
